-- ==== Sys2Proof/Word.lean ====
section
/-! DEFINITION. The widths of 00_scope.md R7 as types: a byte, a 16-bit register, a 32-bit host register.
All values are unsigned (R8). -/

namespace Sys2Proof

/-- A byte: a unit of PB and FB, an 8-bit offset, a packet index (R7). -/
abbrev Byte := BitVec 8

/-- A 16-bit register or a payload-buffer address (R7). -/
abbrev Half := BitVec 16

/-- A host register as the bus sees it (R7, R23). -/
abbrev Word := BitVec 32

end Sys2Proof
end

