-- ==== Sys2Proof/Config.lean ====
section
/-! DEFINITION. What DOC fixes (00_scope.md R5), the parameters it leaves open (R6), and the free values the spec
leaves unspecified (R132, R136). -/

namespace Sys2Proof

/-- R5: bytes of one chunk. -/
@[simp] abbrev Config.chunkBytes : Nat := 196

/-- R5: the largest chunk count of a session. -/
@[simp] abbrev Config.nMax : Nat := 255

/-- R5, R40: bytes of the payload buffer, the largest legal payload. -/
@[simp] abbrev Config.payloadMax : Nat := 49980

/-- R5: bytes of a data frame's header. -/
@[simp] abbrev Config.hdrBytes : Nat := 46

/-- R5, R61: bytes of a data frame, and of the frame buffer (R40). -/
@[simp] abbrev Config.frameBytes : Nat := 244

/-- R5, R30: reset value of SETTLE_DELAY, in ticks. -/
abbrev Config.settleReset : Half := 500#16

/-- R5, R29: reset value of ACK_TIMEOUT, in ticks. -/
abbrev Config.ackTimeoutReset : Half := 750#16

/-- R6: the parameters DOC leaves open, "which a model takes as arguments (configuration, fixed for the life of the
block)". The opaque transport values (address, handle, identifiers) are natural numbers that nothing computes with
(log 19). -/
structure Params where
  /-- P_FRAME_START -/
  frameStart : Vector Byte 4
  /-- P_LEN_FIELD, 0xED by default (R63, C1) -/
  lenField : Byte := 0xED#8
  /-- P_IDX_PAD -/
  idxPad : Byte
  /-- P_HDR_A -/
  hdrA : Vector Byte 28
  /-- P_HDR_B -/
  hdrB : Vector Byte 4
  /-- P_HDR_C -/
  hdrC : Vector Byte 2
  /-- P_RESET1 -/
  reset1 : List Byte
  /-- P_RESET2 -/
  reset2 : List Byte
  /-- P_FINALIZE -/
  finalize : List Byte
  /-- P_DEVICE_ADDR -/
  deviceAddr : Nat
  /-- P_WRITE_HANDLE -/
  writeHandle : Nat
  /-- P_SUB_ID0 -/
  subId0 : Nat
  /-- P_SUB_ID1 -/
  subId1 : Nat
  /-- P_WRITE_RESP_DATA -/
  writeRespData : Bool
  /-- P_WRITE_RESP_CTRL -/
  writeRespCtrl : Bool
  /-- P_TICK, the period of `tick`, in microseconds (nominally 1000); no rule reads it, Safety's time bounds do -/
  tickPeriod : Nat
  deriving DecidableEq, Repr

/-- A legal control frame: 1 to 244 bytes (R6, R71). -/
def Config.controlLength (f : List Byte) : Bool :=
  1 ≤ f.length && f.length ≤ Config.frameBytes

/-- The limits R6 sets on the parameters: each control frame 1..244 bytes, and P_RESET1 ≠ P_RESET2. -/
def Params.wf (p : Params) : Bool :=
  Config.controlLength p.reset1 && Config.controlLength p.reset2 && Config.controlLength p.finalize &&
    p.reset1 != p.reset2

/-- Parameters together with the limits of R6. The default arguments only show that the type is inhabited, which an
opaque constant of it needs. -/
structure Params.Checked where
  /-- the parameters -/
  params : Params :=
    ⟨.replicate 4 0, 0xED#8, 0, .replicate 28 0, .replicate 4 0, .replicate 2 0, [0], [1], [0], 0, 0, 0, 0, false, false, 0⟩
  /-- they meet R6 -/
  ok : params.wf = true := by decide
  deriving Inhabited

/-- The open parameters of the block that leaves reset: any values R6 allows (free values, log 4). -/
opaque Config.openParams : Params.Checked

/-- The parameters of the block that leaves reset: open, but for the length byte, whose default is 0xED
(R6, R63, 90_conflicts.md C1; log 4). -/
def Config.params : Params := { Config.openParams.params with lenField := 0xED#8 }

/-- What the payload-buffer byte at address `a` holds while the host has not written it since reset number `epoch`:
unspecified, "each byte any value" (R132, R136; free value, log 5). -/
opaque Config.unwrittenPB (epoch a : Nat) : Byte

/-- What the frame-buffer byte `k` holds while no frame has been encoded since reset number `epoch`: unspecified
(R132, R113; free value, log 6). -/
opaque Config.unwrittenFB (epoch k : Nat) : Byte

end Sys2Proof
end

