-- ==== Sys2Proof/Machine/Checksum.lean ====
section
/-! DEFINITION. The checksum engine CKE (40_checksum.md): the two checksum functions and the 16-bit reduction that
produces both. -/

namespace Sys2Proof

/-- R74: `Σ X`, the sum of the bytes of X as a natural number. -/
def byteSum (X : List Byte) : Nat :=
  match X with
  | [] => 0
  | b :: rest => b.toNat + byteSum rest

/-- R75: `checksum_mod256(X) = (Σ X) mod 256`. -/
def checksumMod256 (X : List Byte) : Byte := BitVec.ofNat 8 (byteSum X % 256)

/-- R76: `trailing_byte(Y) = ((Σ Y) div 256) mod 256`. -/
def trailingByte (Y : List Byte) : Byte := BitVec.ofNat 8 (byteSum Y / 256 % 256)

/-- CKS_RESULT (10_state.md R34): the triple of a reduction (R78). -/
structure CksResult where
  ck : Byte
  tb : Byte
  sum16 : Half
  deriving DecidableEq, Repr

/-- R34, R78: `{CK → [7:0], TB → [15:8], SUM16 → [31:16]}`. -/
def CksResult.word (r : CksResult) : Word := r.sum16 ++ r.tb ++ r.ck

/-- The loop of R77: ACC16 after adding the bytes of X, silently modulo 2^16. -/
def accumulate (acc16 : Half) (X : List Byte) : Half :=
  match X with
  | [] => acc16
  | b :: rest => accumulate (acc16 + b.setWidth 16) rest

/-- R77: one pass of the accumulator, then CK folded in. -/
def reduceBytes (X : List Byte) : CksResult :=
  let s16 := accumulate 0#16 X
  let ck := s16.extractLsb' 0 8
  let acc16 := s16 + ck.setWidth 16
  ⟨ck, acc16.extractLsb' 8 8, s16⟩

end Sys2Proof
end

