-- ==== Sys2Proof/Machine/Ports.lean ====
section
/-! DEFINITION. The ports of 10_state.md R12 (inputs) and R13 (outputs). -/

namespace Sys2Proof

/-- The kinds of a `tx_req` (R13). -/
inductive FrameKind where
  | reset1
  | reset2
  | data
  | finalize
  deriving DecidableEq, Repr

/-- The values of `conn_rsp`, `sub_rsp0`, `sub_rsp1` and `tx_done` (R12). -/
inductive Rsp where
  | none
  | ok
  | err
  deriving DecidableEq, Repr

/-- The values of the host's bus port `hop` (R12). -/
inductive HostOp where
  | none
  | rd (off : Byte)
  | wr (off : Byte) (d : Word)
  | rdb (a : Half)
  | wrb (a : Half) (b : Byte)
  | rdf (k : Byte)
  deriving DecidableEq, Repr

/-- The input ports of one cycle (R12). Left out, a port is at rest: no reset, no operation, no event. -/
structure CycleIn where
  rst : Bool := false
  hop : HostOp := .none
  connRsp : Rsp := .none
  subRsp0 : Rsp := .none
  subRsp1 : Rsp := .none
  txDone : Rsp := .none
  ntf0 : Bool := false
  ntf1 : Bool := false
  tick : Bool := false
  deriving DecidableEq, Repr

/-- R88: `ack_in <- in.ntf0 or in.ntf1`. -/
def CycleIn.ackIn (c : CycleIn) : Bool := c.ntf0 || c.ntf1

/-- The payload of a `tx_req` (R13): kind, handle, the whole frame, expect_response. -/
structure TxReq where
  kind : FrameKind
  handle : Nat
  bytes : List Byte
  expectResponse : Bool
  deriving DecidableEq, Repr

/-- The output ports as driven in one cycle (R13). A request port is `some` of its payload in exactly the cycle that
emits it. `hrdata` is the read data of a host read of that cycle, `none` where the cycle holds no read (log 10).
The level `irq` is a function of the state (R123), not a field. -/
structure Ports where
  connReq : Option Nat := none
  subReq0 : Option Nat := none
  subReq1 : Option Nat := none
  txReq : Option TxReq := none
  discReq : Bool := false
  hrdata : Option Word := none
  deriving DecidableEq, Repr

end Sys2Proof
end

