-- ==== Sys2Proof/Machine/FrameFormat.lean ====
section
/-! DEFINITION. The bytes of a data frame (30_encoding.md R61 to R70) and of the control frames (R71). -/

namespace Sys2Proof

/-- R64: `[i mod 256, i div 256, P_IDX_PAD]`. -/
def indexField (p : Params) (i : Byte) : List Byte :=
  [BitVec.ofNat 8 (i.toNat % 256), BitVec.ofNat 8 (i.toNat / 256), p.idxPad]

/-- R85: the 46-byte header H. -/
def headerBytes (p : Params) (i : Byte) (n : BitVec 9) : List Byte :=
  p.frameStart.toList ++ [p.lenField] ++ indexField p i ++ p.hdrA.toList ++ [n.setWidth 8] ++ indexField p i ++
    p.hdrB.toList ++ p.hdrC.toList

/-- R85: X, header and chunk, the 242 bytes the trailer is computed from. -/
def frameBody (p : Params) (i : Byte) (n : BitVec 9) (chunk : Vector Byte 196) : List Byte :=
  headerBytes p i n ++ chunk.toList

/-- R85, R70: the reduction of X. -/
def frameChecksum (p : Params) (i : Byte) (n : BitVec 9) (chunk : Vector Byte 196) : CksResult :=
  reduceBytes (frameBody p i n chunk)

/-- R61, R85: F, the 244 bytes of the data frame. -/
def dataFrame (p : Params) (i : Byte) (n : BitVec 9) (chunk : Vector Byte 196) : List Byte :=
  frameBody p i n chunk ++ [(frameChecksum p i n chunk).ck, (frameChecksum p i n chunk).tb]

end Sys2Proof
end

