-- ==== Sys2Proof/Syntax.lean ====
section
/-! DEFINITION. The instructions: one constructor for each row of spec/opcode_table.json. The block has no instruction
set in the processor sense (R1): its instructions are the five command words (30_encoding.md R58), the five host bus
operations (43_host_interface.md R109-R113) and the four wire frames the sequencer issues (R61, R71). -/

namespace Sys2Proof

/-- One row of the opcode table, with its operands. -/
inductive Instr where
  /-- command word 0x00000000 (R114) -/
  | nop
  /-- command word 0x00000001 (R89) -/
  | start
  /-- command word 0x00000002 (R90) -/
  | clear
  /-- command word 0x00000003 with the packet index in ARG, bits 15..8 (R87) -/
  | encode (arg : Byte)
  /-- command word 0x00000004 (R81) -/
  | cksum
  /-- bus operation RD(off) (R109) -/
  | rd (off : Byte)
  /-- bus operation WR(off, d) (R110) -/
  | wr (off : Byte) (d : Word)
  /-- bus operation RDB(a) (R111) -/
  | rdb (a : Half)
  /-- bus operation WRB(a, b) (R112) -/
  | wrb (a : Half) (b : Byte)
  /-- bus operation RDF(k) (R113) -/
  | rdf (k : Byte)
  /-- the data frame of packet index `i`, chunk count `n` and a chunk (R61) -/
  | data (i : Byte) (n : BitVec 9) (chunk : Vector Byte 196)
  /-- the first device-reset frame (R71) -/
  | reset1
  /-- the second device-reset frame (R71) -/
  | reset2
  /-- the finalize frame (R71) -/
  | finalize
  deriving DecidableEq, Repr

end Sys2Proof
end

