-- ==== Sys2Proof/Machine/OpcodeMap.lean ====
section
/-! DEFINITION. The command word (30_encoding.md R56, R57) and the opcode map (R58): which 32-bit words are commands. -/

namespace Sys2Proof

/-- The five commands, with ENCODE's packet index (R58). -/
inductive Command where
  | nop
  | start
  | clear
  | encode (arg : Byte)
  | cksum
  deriving DecidableEq, Repr

/-- The instruction a command is. -/
def Command.toInstr (c : Command) : Instr :=
  match c with
  | .nop => .nop
  | .start => .start
  | .clear => .clear
  | .encode arg => .encode arg
  | .cksum => .cksum

/-- R57: the ARG field, bits 15..8. -/
def commandArg (w : Word) : Byte := w.extractLsb' 8 8

/-- A row of the opcode map: a word is the row's command when `(word & mask) = pattern` (R58). -/
structure CommandRow where
  pattern : Word
  mask : Word
  command : Byte → Command

/-- Whether a word selects the row (R58). -/
def CommandRow.selects (r : CommandRow) (w : Word) : Bool := (w &&& r.mask) == r.pattern

/-- R58, row by row: NOP, START, CLEAR, ENCODE, CKSUM. -/
def commandRows : List CommandRow :=
  [⟨0x00000000#32, 0xFFFFFFFF#32, fun _ => .nop⟩,
   ⟨0x00000001#32, 0xFFFFFFFF#32, fun _ => .start⟩,
   ⟨0x00000002#32, 0xFFFFFFFF#32, fun _ => .clear⟩,
   ⟨0x00000003#32, 0xFFFF00FF#32, fun arg => .encode arg⟩,
   ⟨0x00000004#32, 0xFFFFFFFF#32, fun _ => .cksum⟩]

/-- The command a word is, or none: "Every other 32-bit word is an illegal command" (R58, R59). -/
def decodeCommand (w : Word) : Option Command :=
  (commandRows.find? fun r => r.selects w).map fun r => r.command (commandArg w)

/-- The word of a command (R57, R58; ENCODE: `0x00000003 | (i << 8)`, R87). -/
def Command.word (c : Command) : Word :=
  match c with
  | .nop => 0x00000000#32
  | .start => 0x00000001#32
  | .clear => 0x00000002#32
  | .encode arg => 0x00000003#32 ||| (arg.setWidth 32 <<< 8)
  | .cksum => 0x00000004#32

end Sys2Proof
end

