-- ==== Sys2Proof/WellFormed.lean ====
section
/-! DEFINITION. Which terms of `Instr` are instructions in the one spelling the decoder gives. -/

namespace Sys2Proof

/-- `WR(0x00, w)` with a command word `w` IS that command (R60, R110), so `.wr` does not spell it a second time; a data
frame has `0 ≤ i < N` and `N ≤ 255` (R61, R66). Every other operand value is defined: a bad offset or address reads 0
or is refused by CMD_ERR (R44, R47). -/
def Instr.wellFormed (i : Instr) : Bool :=
  match i with
  | .nop => true
  | .start => true
  | .clear => true
  | .encode _ => true
  | .cksum => true
  | .rd _ => true
  | .wr off d => !(off == 0x00#8 && (decodeCommand d).isSome)
  | .rdb _ => true
  | .wrb _ _ => true
  | .rdf _ => true
  | .data i n _ => n.toNat ≤ Config.nMax && i.toNat < n.toNat
  | .reset1 => true
  | .reset2 => true
  | .finalize => true

end Sys2Proof
end

