-- ==== Sys2Proof/Decode.lean ====
section
/-! DEFINITION. The decoder, total on every bus operation, command word and byte string, and the encoder after it,
both from 30_encoding.md. -/

namespace Sys2Proof

/-- What an instruction looks like outside the block: a value of the port `hop` (R12, R72), or the kind and bytes of a
`tx_req` (R13). -/
inductive Code where
  | bus (op : HostOp)
  | frame (kind : FrameKind) (bytes : List Byte)
  deriving DecidableEq, Repr

/-- Why a code is no instruction. -/
inductive DecodeError where
  /-- `hop = NONE`: the cycle holds no host operation (R12) -/
  | noOperation
  /-- the word is no row of the opcode map (R59) -/
  | badOpcode
  /-- a data frame is exactly 244 bytes (R61) -/
  | wrongLength
  /-- bytes 0..3 are not P_FRAME_START (R62) -/
  | wrongStart
  /-- byte 4 is not P_LEN_FIELD (R63) -/
  | wrongLen
  /-- bytes 5..7 are no index field with high byte 0 (R64) -/
  | wrongIndexField
  /-- the two index fields differ (R64) -/
  | indexMismatch
  /-- bytes 8..35, 40..43 or 44..45 are not the constants (R65, R67, R68) -/
  | wrongHeader
  /-- the index is not below the count, or the count is 0 (R61, R66) -/
  | indexOutOfRange
  /-- bytes 242..243 are not the trailer of the bytes before them (R70) -/
  | wrongTrailer
  /-- the bytes of a control frame are not the parameter's (R71) -/
  | wrongControlFrame
  deriving DecidableEq, Repr

/-- A command word (R58, R59). -/
def decodeWord (w : Word) : Except DecodeError Instr :=
  match decodeCommand w with
  | some c => .ok c.toInstr
  | none => .error .badOpcode

/-- A value of `hop`. A write to CMD of a command word is that command (R60, R110); a write to CMD of any other word
stays the bus operation, whose meaning reports BAD_OPCODE. -/
def decodeBus (op : HostOp) : Except DecodeError Instr :=
  match op with
  | .none => .error .noOperation
  | .rd off => .ok (.rd off)
  | .wr off d =>
    if off = 0x00#8 then
      match decodeCommand d with
      | some c => .ok c.toInstr
      | none => .ok (.wr off d)
    else .ok (.wr off d)
  | .rdb a => .ok (.rdb a)
  | .wrb a b => .ok (.wrb a b)
  | .rdf k => .ok (.rdf k)

/-- `n` bytes of a frame from offset `at0` on. -/
def sliceBytes (bytes : List Byte) (at0 n : Nat) : List Byte := (bytes.drop at0).take n

/-- The chunk of a 244-byte frame, offsets 46..241 (R61, R69). -/
def chunkOfFrame (bytes : List Byte) : Vector Byte 196 :=
  ⟨((List.range 196).map fun k => bytes.getD (46 + k) 0).toArray, by simp⟩

/-- The reading of a data frame, field by field (R61 to R70). -/
def decodeData (p : Params) (bytes : List Byte) : Except DecodeError Instr :=
  let i := bytes.getD 5 0
  let n := bytes.getD 36 0
  if bytes.length ≠ Config.frameBytes then .error .wrongLength
  else if sliceBytes bytes 0 4 ≠ p.frameStart.toList then .error .wrongStart
  else if bytes.getD 4 0 ≠ p.lenField then .error .wrongLen
  else if sliceBytes bytes 5 3 ≠ indexField p i then .error .wrongIndexField
  else if sliceBytes bytes 37 3 ≠ sliceBytes bytes 5 3 then .error .indexMismatch
  else if sliceBytes bytes 8 28 ≠ p.hdrA.toList then .error .wrongHeader
  else if sliceBytes bytes 40 4 ≠ p.hdrB.toList then .error .wrongHeader
  else if sliceBytes bytes 44 2 ≠ p.hdrC.toList then .error .wrongHeader
  else if n.toNat ≤ i.toNat then .error .indexOutOfRange
  else
    let r := reduceBytes (sliceBytes bytes 0 242)
    if sliceBytes bytes 242 2 ≠ [r.ck, r.tb] then .error .wrongTrailer
    else .ok (.data i (n.setWidth 9) (chunkOfFrame bytes))

/-- A `tx_req`'s kind and bytes (R61, R71). -/
def decodeFrame (p : Params) (kind : FrameKind) (bytes : List Byte) : Except DecodeError Instr :=
  match kind with
  | .data => decodeData p bytes
  | .reset1 => if bytes = p.reset1 then .ok .reset1 else .error .wrongControlFrame
  | .reset2 => if bytes = p.reset2 then .ok .reset2 else .error .wrongControlFrame
  | .finalize => if bytes = p.finalize then .ok .finalize else .error .wrongControlFrame

/-- The decoder. -/
def decode (p : Params) (c : Code) : Except DecodeError Instr :=
  match c with
  | .bus op => decodeBus op
  | .frame kind bytes => decodeFrame p kind bytes

/-- The encoder: a command is a write to CMD (R60, R73), a bus operation itself (R72), a frame its bytes (R61, R71). -/
def encode (p : Params) (i : Instr) : Code :=
  match i with
  | .nop => .bus (.wr 0x00#8 Command.nop.word)
  | .start => .bus (.wr 0x00#8 Command.start.word)
  | .clear => .bus (.wr 0x00#8 Command.clear.word)
  | .encode arg => .bus (.wr 0x00#8 (Command.encode arg).word)
  | .cksum => .bus (.wr 0x00#8 Command.cksum.word)
  | .rd off => .bus (.rd off)
  | .wr off d => .bus (.wr off d)
  | .rdb a => .bus (.rdb a)
  | .wrb a b => .bus (.wrb a b)
  | .rdf k => .bus (.rdf k)
  | .data i n chunk => .frame .data (dataFrame p i n chunk)
  | .reset1 => .frame .reset1 p.reset1
  | .reset2 => .frame .reset2 p.reset2
  | .finalize => .frame .finalize p.finalize

/-- The command word whose low `nbits` bits are those of `w` and whose other bits are 0. -/
def tableWord (nbits w : Nat) : Word := BitVec.ofNat 32 (w % 2 ^ nbits)

/-- The host's question: the instruction read from a table row's word. Only command words have bits in the table (R56);
they are 32 bits long, so a longer row is none. -/
def decodeTableWord (nbits w : Nat) : Option Instr :=
  if nbits ≤ 32 then (decodeCommand (tableWord nbits w)).map Command.toInstr else none

end Sys2Proof
end

