-- ==== Sys2Proof/Machine/State.lean ====
section
/-! DEFINITION. The state of the CTE (10_state.md, 20_memory.md R40) as plain data, and its value after a reset cycle
(70_reset_and_hazards.md R132). -/

namespace Sys2Proof.Machine

/-- R15: the sequencer's position STATE. Codes 14 and 15 are never entered, and have no constructor (log 15). -/
inductive SeqState where
  | idle
  | connecting
  | subscribing
  | connected
  | resetWr1
  | resetSettle
  | resetWr2
  | xferSend
  | xferWr
  | xferWait
  | finWr1
  | finWr2
  | completed
  | failed
  deriving DecidableEq, Repr

/-- R115: the session failure codes 0 to 7 (8 to 15 are never written; log 15). -/
inductive FailCode where
  | none
  | invalidFormat
  | payloadTooLarge
  | connectionError
  | subscriptionError
  | transportWriteError
  | ackTimeout
  | indexOutOfRange
  deriving DecidableEq, Repr

/-- R119: the command status codes 0 to 5 (6 to 15 are never written; log 15). -/
inductive CmdErr where
  | ok
  | badOpcode
  | badState
  | range
  | index
  | badAddr
  deriving DecidableEq, Repr

/-- A byte memory: (address, byte) pairs with strictly rising addresses (`Memory.wf`). An address it does not list has
not been written since reset; what it reads as is not stored (log 5, log 24). -/
abbrev Memory := List Host.Cell

/-- Everything the spec gives the machine. -/
structure State where
  /-- STATE (R15) -/
  st : SeqState
  /-- IDX (R16) -/
  idx : Byte
  /-- TIMER (R17, R31) -/
  timer : Half
  /-- ACK_LATCH (R18) -/
  ackLatch : Bool
  /-- SUB_OK (R19): bit 0 is source 0, bit 1 source 1 -/
  subOk : BitVec 2
  /-- CONN_UP (R20) -/
  connUp : Bool
  /-- ERROR.ERR (R26) -/
  err : FailCode
  /-- ERROR.FAIL_STATE (R26) -/
  failState : SeqState
  /-- ERROR.FAIL_IDX (R26) -/
  failIdx : Byte
  /-- ERROR.CMD_ERR (R26) -/
  cmdErr : CmdErr
  /-- PAYLOAD_LEN.L (R27) -/
  payloadLen : Half
  /-- ACK_TIMEOUT.LIMIT (R29) -/
  ackTimeout : Half
  /-- SETTLE_DELAY.LIMIT (R30) -/
  settleDelay : Half
  /-- CKS_ADDR.A (R32) -/
  cksAddr : Half
  /-- CKS_LEN.N (R33) -/
  cksLen : Half
  /-- CKS_RESULT (R34) -/
  cksResult : CksResult
  /-- FRAME_LEN (R35) -/
  frameLen : Byte
  /-- INT_CTRL.IE (R36) -/
  ie : Bool
  /-- TX_COUNT (R37) -/
  txCount : Half
  /-- PB, the payload buffer (R40) -/
  pb : Memory
  /-- FB, the frame buffer (R40) -/
  fb : Memory
  /-- the output ports as driven in the cycle just completed (R13; log 11) -/
  out : Ports
  /-- the input ports of the coming cycles, this cycle's first (R12; log 1) -/
  inputs : List CycleIn
  /-- the parameters of R6, fixed for the life of the block (log 3) -/
  params : Params
  /-- the model's own: how many reset cycles have been stepped through; it selects the free bytes of PB and FB (log 7) -/
  epoch : Nat
  /-- the model's own: whether a rule of the cycle in progress has assigned ACK_LATCH, for R88's last line (log 8) -/
  latchAssigned : Bool
  deriving DecidableEq, Repr

/-- Why the machine stops with a fault: it never does. Every failure the spec describes is a session failure (R115) or a
command status (R119), which are next states; a wait for an input that never comes holds its state (R140). -/
inductive Fault where
  deriving DecidableEq, Repr

/-- Why the machine gives an instruction no meaning. -/
inductive Refusal where
  /-- raised by an arm of `exec` for an instruction not modelled yet, named by its mnemonic; safe (nothing is claimed of
  it). No arm raises it. -/
  | notModelled (mnemonic : String)
  deriving DecidableEq, Repr

/-- The state after a reset cycle (R132). PB and FB list nothing (unspecified bytes), no output event is driven and
`hrdata` is 0 (R131). The parameters are those of the block (log 4); the input list, `epoch` and `latchAssigned` start
empty, 0 and false (log 1, 7, 8). -/
def State.reset : State where
  st := .idle
  idx := 0
  timer := 0
  ackLatch := false
  subOk := 0
  connUp := false
  err := .none
  failState := .idle
  failIdx := 0
  cmdErr := .ok
  payloadLen := 0
  ackTimeout := Config.ackTimeoutReset
  settleDelay := Config.settleReset
  cksAddr := 0
  cksLen := 0
  cksResult := ⟨0, 0, 0⟩
  frameLen := 0
  ie := false
  txCount := 0
  pb := []
  fb := []
  out := { hrdata := some 0 }
  inputs := []
  params := Config.params
  epoch := 0
  latchAssigned := false

end Sys2Proof.Machine
end

