-- ==== Sys2Proof/Machine/Flags.lean ====
section
/-! DEFINITION. The status flags (10_state.md R22) and the register words that show them (R25, R26, R36). -/

namespace Sys2Proof.Machine

/-- R15: the code of STATE. -/
def SeqState.code (st : SeqState) : BitVec 4 :=
  match st with
  | .idle => 0
  | .connecting => 1
  | .subscribing => 2
  | .connected => 3
  | .resetWr1 => 4
  | .resetSettle => 5
  | .resetWr2 => 6
  | .xferSend => 7
  | .xferWr => 8
  | .xferWait => 9
  | .finWr1 => 10
  | .finWr2 => 11
  | .completed => 12
  | .failed => 13

/-- R15: IDLE, COMPLETED and FAILED are stable; every other state is busy. -/
def SeqState.stable (st : SeqState) : Bool :=
  match st with
  | .idle => true
  | .connecting => false
  | .subscribing => false
  | .connected => false
  | .resetWr1 => false
  | .resetSettle => false
  | .resetWr2 => false
  | .xferSend => false
  | .xferWr => false
  | .xferWait => false
  | .finWr1 => false
  | .finWr2 => false
  | .completed => true
  | .failed => true

/-- R115: the code of ERROR.ERR. -/
def FailCode.code (c : FailCode) : BitVec 4 :=
  match c with
  | .none => 0
  | .invalidFormat => 1
  | .payloadTooLarge => 2
  | .connectionError => 3
  | .subscriptionError => 4
  | .transportWriteError => 5
  | .ackTimeout => 6
  | .indexOutOfRange => 7

/-- R119: the code of ERROR.CMD_ERR. -/
def CmdErr.code (c : CmdErr) : BitVec 4 :=
  match c with
  | .ok => 0
  | .badOpcode => 1
  | .badState => 2
  | .range => 3
  | .index => 4
  | .badAddr => 5

/-- STATUS.BUSY: "1 iff STATE ∉ {0 IDLE, 12 COMPLETED, 13 FAILED}" (R25). -/
def State.busy (s : State) : Bool := !s.st.stable

/-- The level `irq` in the cycle that starts in `s`: `INT_CTRL.IE ∧ (STATE = COMPLETED ∨ STATE = FAILED)` (R123). -/
def State.irq (s : State) : Bool := s.ie && (s.st == .completed || s.st == .failed)

/-- A field of a register word, its lowest bit at bit `k` (R8). -/
def fieldAt {n : Nat} (k : Nat) (v : BitVec n) : Word := v.setWidth 32 <<< k

/-- STATUS (R25); the reserved fields are 0. -/
def State.statusWord (s : State) : Word :=
  fieldAt 0 s.st.code ||| fieldAt 4 (BitVec.ofBool s.busy) ||| fieldAt 5 (BitVec.ofBool s.ackLatch) |||
    fieldAt 6 (BitVec.ofBool s.connUp) ||| fieldAt 7 s.subOk ||| fieldAt 16 s.idx

/-- ERROR (R26); the reserved fields are 0. -/
def State.errorWord (s : State) : Word :=
  fieldAt 0 s.err.code ||| fieldAt 8 s.failState.code ||| fieldAt 16 s.failIdx ||| fieldAt 24 s.cmdErr.code

/-- INT_CTRL (R36): IE in bit 0, IRQ in bit 1; the reserved field is 0. -/
def State.intCtrlWord (s : State) : Word := fieldAt 0 (BitVec.ofBool s.ie) ||| fieldAt 1 (BitVec.ofBool s.irq)

end Sys2Proof.Machine
end

