-- ==== Sys2Proof/Machine/Ops.lean ====
section
/-! DEFINITION. The named operations over memory, registers and ports; the failure entry (60_exceptions.md R116), the
completion entry (R117) and the return from either (CLEAR, 42_flow_control.md R90). -/

namespace Sys2Proof.Machine

/-! ### Memory -/

/-- The addresses of `m` rise strictly, from `lo` on and below `size`. -/
def Memory.wfFrom (lo size : Nat) (m : Memory) : Bool :=
  match m with
  | [] => true
  | (a, _) :: rest => lo ≤ a && a < size && Memory.wfFrom (a + 1) size rest

/-- The canonical form of a memory of `size` bytes: each written address below `size` listed once, in rising order. -/
def Memory.wf (size : Nat) (m : Memory) : Bool := Memory.wfFrom 0 size m

/-- The byte written at `a`, none where nothing has written it since reset. -/
def Memory.read (m : Memory) (a : Nat) : Option Byte :=
  match m with
  | [] => none
  | (b, v) :: rest => if a = b then some v else Memory.read rest a

/-- Write a byte, keeping the addresses rising. -/
def Memory.write (m : Memory) (a : Nat) (v : Byte) : Memory :=
  match m with
  | [] => [(a, v)]
  | (b, w) :: rest =>
    if a < b then (a, v) :: (b, w) :: rest
    else if a = b then (a, v) :: rest
    else (b, w) :: Memory.write rest a v

/-- The memory that holds `bytes` at the addresses from `at0` on and nothing else. -/
def Memory.ofBytes (at0 : Nat) (bytes : List Byte) : Memory :=
  match bytes with
  | [] => []
  | b :: rest => (at0, b) :: Memory.ofBytes (at0 + 1) rest

/-- PB[a]: the byte written there since reset, else an unspecified one (R40, R132). -/
def State.readPB (s : State) (a : Nat) : Byte := (Memory.read s.pb a).getD (Config.unwrittenPB s.epoch a)

/-- FB[k]: the byte of the last encoded frame, else an unspecified one (R40, R86, R132). -/
def State.readFB (s : State) (k : Nat) : Byte := (Memory.read s.fb k).getD (Config.unwrittenFB s.epoch k)

/-- `PB[a .. a+n-1]`, in address order (R9). -/
def State.rangePB (s : State) (a n : Nat) : List Byte := (List.range n).map fun k => s.readPB (a + k)

/-- `PB[a] <- b` (R10). -/
def State.writePB (s : State) (a : Nat) (b : Byte) : State := { s with pb := Memory.write s.pb a b }

/-- `for k in 0 .. 243: FB[k] <- F[k]; FRAME_LEN <- 244; CKS_RESULT <- r` (R85): a frame fills FB whole (log 27). -/
def State.storeFrame (s : State) (F : List Byte) (r : CksResult) : State :=
  { s with fb := Memory.ofBytes 0 F, frameLen := 244, cksResult := r }

/-! ### Registers and flags -/

/-- `cmd_err(c)` (R119). -/
def State.setCmdErr (s : State) (c : CmdErr) : State := { s with cmdErr := c }

/-- `STATE <- st` (R10). -/
def State.moveTo (s : State) (st : SeqState) : State := { s with st := st }

/-- `ACK_LATCH <- v` by a rule of this cycle, which keeps R88's default update from running. -/
def State.setLatch (s : State) (v : Bool) : State := { s with ackLatch := v, latchAssigned := true }

/-- The host reads `w` (port `hrdata`, R13). -/
def State.driveRead (s : State) (w : Word) : State := { s with out := { s.out with hrdata := some w } }

/-- A command of the opcode map runs only while the sequencer is not busy, and is refused with BAD_STATE otherwise (R60).
`done` is the state it leaves when it runs. -/
def State.whenStable (s done : State) : State := if s.busy then s.setCmdErr .badState else done

/-! ### Requests to the transport (R13) -/

/-- `emit conn_req(P_DEVICE_ADDR)`. -/
def State.emitConnect (s : State) : State := { s with out := { s.out with connReq := some s.params.deviceAddr } }

/-- `emit sub_req0(P_SUB_ID0); emit sub_req1(P_SUB_ID1)`. -/
def State.emitSubscribe (s : State) : State :=
  { s with out := { s.out with subReq0 := some s.params.subId0, subReq1 := some s.params.subId1 } }

/-- `emit tx_req(kind, P_WRITE_HANDLE, bytes, expect_response); TX_COUNT <- TX_COUNT + 1`: every rule that emits a
`tx_req` counts it (R37, R94 to R101). -/
def State.issue (s : State) (kind : FrameKind) (bytes : List Byte) (expectResponse : Bool) : State :=
  { s with
    txCount := s.txCount + 1
    out := { s.out with txReq := some ⟨kind, s.params.writeHandle, bytes, expectResponse⟩ } }

/-- "release the scoped connection": `emit disc_req; CONN_UP <- 0` (R116, R117). -/
def State.release (s : State) : State := { s with connUp := false, out := { s.out with discReq := true } }

/-! ### Failing, completing, and returning -/

/-- R116, `raise Fail(code)`: the failure entry. `start` is the state at the start of the cycle, which the record and the
test of CONN_UP read; `s` holds the writes the raising rule has made before the raise, which stand. -/
def State.raiseFail (s start : State) (code : FailCode) : State :=
  let t := { s with err := code, failState := start.st, failIdx := start.idx }
  (if start.connUp then t.release else t).moveTo .failed

/-- R117: the completion entry, `STATE <- COMPLETED; emit disc_req; CONN_UP <- 0`. -/
def State.complete (s : State) : State := s.release.moveTo .completed

/-- The zeroing that START (R89) and CLEAR (R90) share: IDX, TIMER, ACK_LATCH, SUB_OK, TX_COUNT and the failure record. -/
def State.zeroSession (s : State) : State :=
  { s.setLatch false with
    idx := 0, timer := 0, subOk := 0, txCount := 0, err := .none, failState := .idle, failIdx := 0 }

/-- R90, R121: the return from COMPLETED or FAILED to IDLE. -/
def State.clearSession (s : State) : State := (s.zeroSession.moveTo .idle).setCmdErr .ok

/-! ### The cycle -/

/-- The input ports of the current cycle, `in` of R10; with no cycle listed every port is at rest (log 2). -/
def State.input (s : State) : CycleIn := s.inputs.headD {}

/-- The start of a cycle: no output is driven yet and no rule has assigned ACK_LATCH. -/
def State.beginCycle (s : State) : State := { s with out := {}, latchAssigned := false }

/-- The end of a cycle: R88's default update of ACK_LATCH, and the cycle's inputs are over. -/
def State.endCycle (s : State) : State :=
  { s with
    ackLatch := if s.latchAssigned then s.ackLatch else s.ackLatch || s.input.ackIn
    latchAssigned := false
    inputs := s.inputs.tail }

/-- R131: a cycle with `rst = 1`. Every register takes its reset value, nothing is emitted, and PB and FB become
unspecified anew; the parameters are fixed for the life of the block, and the cycle's inputs are over (log 25). -/
def State.resetCycle (s : State) : State :=
  { State.reset with params := s.params, inputs := s.inputs.tail, epoch := s.epoch + 1 }

/-- Go on with a next state; a stop stays. -/
def andThen (o : Host.Outcome State Fault Refusal) (f : State → Host.Outcome State Fault Refusal) :
    Host.Outcome State Fault Refusal :=
  match o with
  | .next s => f s
  | .fault r => .fault r
  | .refused r => .refused r

end Sys2Proof.Machine
end

