-- ==== Sys2Proof/Machine/Operands.lean ====
section
/-! DEFINITION. Where operands come from: the host register map (10_state.md R23), the chunk count (41_frame_encoder.md
R82) and the chunk fetch (R84). -/

namespace Sys2Proof.Machine

/-- The registers of R23. -/
inductive RegName where
  | cmd
  | status
  | error
  | payloadLen
  | nchunk
  | ackTimeout
  | settleDelay
  | timer
  | cksAddr
  | cksLen
  | cksResult
  | frameLen
  | intCtrl
  | txCount
  deriving DecidableEq, Repr

/-- R23: the register at a byte offset; none at a misaligned (R44) or reserved one. -/
def regAt (off : Byte) : Option RegName :=
  if off.toNat % 4 ≠ 0 then none
  else
    match off.toNat with
    | 0x00 => some .cmd
    | 0x04 => some .status
    | 0x08 => some .error
    | 0x0C => some .payloadLen
    | 0x10 => some .nchunk
    | 0x14 => some .ackTimeout
    | 0x18 => some .settleDelay
    | 0x1C => some .timer
    | 0x20 => some .cksAddr
    | 0x24 => some .cksLen
    | 0x28 => some .cksResult
    | 0x2C => some .frameLen
    | 0x30 => some .intCtrl
    | 0x34 => some .txCount
    | _ => none

/-- R82: `(L + 195) div 196`. -/
def chunkCount (len : Nat) : Nat := (len + 195) / 196

/-- NCHUNK.N (R28, R82), 9 bits. -/
def State.nchunk (s : State) : BitVec 9 := BitVec.ofNat 9 (chunkCount s.payloadLen.toNat)

/-- R84: byte `k` of chunk `i`, zero at and beyond L. -/
def State.chunkByte (s : State) (i k : Nat) : Byte :=
  if 196 * i + k < s.payloadLen.toNat then s.readPB (196 * i + k) else 0

/-- R84: chunk `i`. -/
def State.chunk (s : State) (i : Nat) : Vector Byte 196 :=
  ⟨((List.range 196).map fun k => s.chunkByte i k).toArray, by simp⟩

/-- The 32-bit word of a register, reserved fields 0 (R23 to R37). CMD reads 0 (R24). -/
def State.readReg (s : State) (r : RegName) : Word :=
  match r with
  | .cmd => 0
  | .status => s.statusWord
  | .error => s.errorWord
  | .payloadLen => s.payloadLen.setWidth 32
  | .nchunk => s.nchunk.setWidth 32
  | .ackTimeout => s.ackTimeout.setWidth 32
  | .settleDelay => s.settleDelay.setWidth 32
  | .timer => s.timer.setWidth 32
  | .cksAddr => s.cksAddr.setWidth 32
  | .cksLen => s.cksLen.setWidth 32
  | .cksResult => s.cksResult.word
  | .frameLen => s.frameLen.setWidth 32
  | .intCtrl => s.intCtrlWord
  | .txCount => s.txCount.setWidth 32

/-- The word a RD of `off` reads (R109). -/
def State.readAt (s : State) (off : Byte) : Word :=
  match regAt off with
  | some r => s.readReg r
  | none => 0

/-- A write to a register locked while busy (R23, R51, R110); `done` is the state with the field written. -/
def State.writeLocked (s done : State) : State :=
  if s.busy then s.setCmdErr .badState else done.setCmdErr .ok

/-- R85's range test: `N > 255 or i >= N` is IndexOutOfRange. -/
def inRange (i : Byte) (n : BitVec 9) : Bool := n.toNat ≤ Config.nMax && i.toNat < n.toNat

/-- R85's writes, for an index in range: FB, FRAME_LEN and CKS_RESULT. -/
def State.storeDataFrame (s : State) (i : Byte) (n : BitVec 9) (chunk : Vector Byte 196) : State :=
  s.storeFrame (dataFrame s.params i n chunk) (frameChecksum s.params i n chunk)

end Sys2Proof.Machine
end

