-- ==== Sys2Proof/Machine/Frames.lean ====
section
/-! DEFINITION. The wire frames as instructions: issuing the frame to the transport (R61, R71, 42_flow_control.md R94 to
R101). WHEN a frame is issued, and the STATE that follows, are the sequencer's rules (Sequencer.lean; log 12). -/

namespace Sys2Proof.Machine

/-- R98 for a data frame in range: R85's writes, `ACK_LATCH <- ack_in`, and the `tx_req`. -/
def State.issueData (s : State) (i : Byte) (n : BitVec 9) (chunk : Vector Byte 196) : State :=
  ((s.storeDataFrame i n chunk).setLatch s.input.ackIn).issue .data (dataFrame s.params i n chunk) s.params.writeRespData

/-- DATA (R61, R85, R98): issue the data frame of index `i`, count `n` and `chunk`; an index out of range raises
Fail(7). -/
def execData (i : Byte) (n : BitVec 9) (chunk : Vector Byte 196) (s : State) : Host.Outcome State Fault Refusal :=
  .next (if inRange i n then s.issueData i n chunk else s.raiseFail s .indexOutOfRange)

/-- RESET1 (R71, R94): P_RESET1 verbatim. -/
def execReset1 (s : State) : Host.Outcome State Fault Refusal :=
  .next (s.issue .reset1 s.params.reset1 s.params.writeRespCtrl)

/-- RESET2 (R71, R96): P_RESET2 verbatim. -/
def execReset2 (s : State) : Host.Outcome State Fault Refusal :=
  .next (s.issue .reset2 s.params.reset2 s.params.writeRespCtrl)

/-- FINALIZE (R71, R100, R101): P_FINALIZE verbatim. -/
def execFinalize (s : State) : Host.Outcome State Fault Refusal :=
  .next (s.issue .finalize s.params.finalize s.params.writeRespCtrl)

end Sys2Proof.Machine
end

