-- ==== Sys2Proof/Machine/Sequencer.lean ====
section
/-! DEFINITION. The flow-control sequencer FCS: the rule of each state (42_flow_control.md R91 to R102). An input a rule
does not read has no effect in its state (R103). -/

namespace Sys2Proof.Machine

/-- The sequencer's `STATE <- st` as the last act of a rule. -/
def thenMoveTo (o : Host.Outcome State Fault Refusal) (st : SeqState) : Host.Outcome State Fault Refusal :=
  andThen o fun t => .next (t.moveTo st)

/-- R92, CONNECTING. -/
def ruleConnecting (s : State) : Host.Outcome State Fault Refusal :=
  match s.input.connRsp with
  | .ok => .next ({ s with connUp := true }.emitSubscribe.moveTo .subscribing)
  | .err => .next (s.raiseFail s .connectionError)
  | .none => .next s

/-- R93: an ERR on a source whose answer is awaited. A source already answered OK is awaited no more, and an unawaited
answer is ignored (R55; 92_eei_decisions.md D21, 93_implementation_defined.md item 20; DEDUCED, log 29). -/
def State.subFails (s : State) : Bool :=
  (s.input.subRsp0 == .err && !s.subOk.getLsbD 0) || (s.input.subRsp1 == .err && !s.subOk.getLsbD 1)

/-- R93: the SUB_OK bits after the answers of this cycle; an OK for a source already set changes nothing. -/
def State.subOkNext (s : State) : BitVec 2 :=
  s.subOk ||| BitVec.ofBool (s.input.subRsp1 == .ok) ++ BitVec.ofBool (s.input.subRsp0 == .ok)

/-- R93, SUBSCRIBING: an ERR on either source wins. -/
def ruleSubscribing (s : State) : Host.Outcome State Fault Refusal :=
  if s.subFails then .next (s.raiseFail s .subscriptionError)
  else
    let t := { s with subOk := s.subOkNext }
    .next (if s.subOkNext = 0b11#2 then t.moveTo .connected else t)

/-- R94, CONNECTED. -/
def ruleConnected (s : State) : Host.Outcome State Fault Refusal := thenMoveTo (execReset1 s) .resetWr1

/-- R95, RESET_WR1. -/
def ruleResetWr1 (s : State) : Host.Outcome State Fault Refusal :=
  match s.input.txDone with
  | .ok => .next ({ s with timer := 0 }.moveTo .resetSettle)
  | .err => .next (s.raiseFail s .transportWriteError)
  | .none => .next s

/-- `TIMER + 1 >= LIMIT`, on naturals (R80, R96, R100). -/
def State.expires (s : State) (limit : Half) : Bool := limit.toNat ≤ s.timer.toNat + 1

/-- `TIMER <- TIMER + 1` (R96, R100). -/
def State.countTick (s : State) : State := { s with timer := s.timer + 1 }

/-- R96, RESET_SETTLE. -/
def ruleResetSettle (s : State) : Host.Outcome State Fault Refusal :=
  if s.input.tick then
    if s.expires s.settleDelay then thenMoveTo (execReset2 s.countTick) .resetWr2 else .next s.countTick
  else .next s

/-- R97, RESET_WR2. -/
def ruleResetWr2 (s : State) : Host.Outcome State Fault Refusal :=
  match s.input.txDone with
  | .ok => .next ({ s with idx := 0 }.moveTo .xferSend)
  | .err => .next (s.raiseFail s .transportWriteError)
  | .none => .next s

/-- R98, XFER_SEND: issue DATA with IDX, N and chunk(IDX); out of range, the failure entry has moved STATE. -/
def ruleXferSend (s : State) : Host.Outcome State Fault Refusal :=
  andThen (execData s.idx s.nchunk (s.chunk s.idx.toNat) s) fun t =>
    .next (if inRange s.idx s.nchunk then t.moveTo .xferWr else t)

/-- R99, XFER_WR. -/
def ruleXferWr (s : State) : Host.Outcome State Fault Refusal :=
  match s.input.txDone with
  | .ok => .next ({ s with timer := 0 }.moveTo .xferWait)
  | .err => .next (s.raiseFail s .transportWriteError)
  | .none => .next s

/-- R100's acknowledgment: latched, or in this cycle. -/
def State.acked (s : State) : Bool := s.ackLatch || s.input.ackIn

/-- R100, XFER_WAIT: the acknowledgment wins over the tick. `IDX = N - 1` is compared as `IDX + 1 = N` (log 17). -/
def ruleXferWait (s : State) : Host.Outcome State Fault Refusal :=
  if s.acked then
    if s.idx.toNat + 1 = s.nchunk.toNat then thenMoveTo (execFinalize s) .finWr1
    else .next ({ s with idx := s.idx + 1 }.moveTo .xferSend)
  else if s.input.tick then
    .next (if s.expires s.ackTimeout then s.countTick.raiseFail s .ackTimeout else s.countTick)
  else .next s

/-- R101, FIN_WR1. -/
def ruleFinWr1 (s : State) : Host.Outcome State Fault Refusal :=
  match s.input.txDone with
  | .ok => thenMoveTo (execFinalize s) .finWr2
  | .err => .next (s.raiseFail s .transportWriteError)
  | .none => .next s

/-- R102, FIN_WR2. -/
def ruleFinWr2 (s : State) : Host.Outcome State Fault Refusal :=
  match s.input.txDone with
  | .ok => .next s.complete
  | .err => .next (s.raiseFail s .transportWriteError)
  | .none => .next s

/-- R88: the rule of state `st`, the STATE at the start of the cycle; the stable states run none (R91). -/
def sequencerRule (st : SeqState) (s : State) : Host.Outcome State Fault Refusal :=
  match st with
  | .idle => .next s
  | .connecting => ruleConnecting s
  | .subscribing => ruleSubscribing s
  | .connected => ruleConnected s
  | .resetWr1 => ruleResetWr1 s
  | .resetSettle => ruleResetSettle s
  | .resetWr2 => ruleResetWr2 s
  | .xferSend => ruleXferSend s
  | .xferWr => ruleXferWr s
  | .xferWait => ruleXferWait s
  | .finWr1 => ruleFinWr1 s
  | .finWr2 => ruleFinWr2 s
  | .completed => .next s
  | .failed => .next s

end Sys2Proof.Machine
end

