-- ==== Sys2Proof/Machine/Cycle.lean ====
section
/-! DEFINITION. The parts of one clock cycle (42_flow_control.md R88) around the host's operation: what the host runs in
it, and what follows. -/

namespace Sys2Proof.Machine

/-- The instruction on the port `hop` in this cycle; none in a cycle with no operation (R12, R72). -/
def State.fetched (s : State) : Option Instr :=
  match decodeBus s.input.hop with
  | .ok i => some i
  | .error _ => none

/-- R88 after the host's operation: the rule of the STATE the cycle started in (`start`), then the default update of
ACK_LATCH. -/
def finishCycle (start : State) (o : Host.Outcome State Fault Refusal) : Host.Outcome State Fault Refusal :=
  andThen o fun t => andThen (sequencerRule start.st t) fun u => .next u.endCycle

/-- The host writes `w` to CMD in the coming cycle, with the cycle's other ports as they are and no reset in it. -/
def State.withCommandWord (s : State) (w : Word) : State :=
  { s with inputs := { s.input with rst := false, hop := .wr 0x00#8 w } :: s.inputs.tail }

end Sys2Proof.Machine
end

