-- ==== Sys2Proof/Machine/Commands.lean ====
section
/-! DEFINITION. The five commands (30_encoding.md R58), each with the busy check of R60 that stands before it. -/

namespace Sys2Proof.Machine

/-- R114, NOP: `cmd_err(0)`. -/
def execNop (s : State) : Host.Outcome State Fault Refusal := .next (s.whenStable (s.setCmdErr .ok))

/-- R89, START in IDLE: the zeroing, then the size check, then `conn_req`. -/
def State.beginSession (s : State) : State :=
  let z := (s.setCmdErr .ok).zeroSession
  if s.payloadLen.toNat = 0 then z.raiseFail s .invalidFormat
  else if Config.nMax < s.nchunk.toNat then z.raiseFail s .payloadTooLarge
  else z.emitConnect.moveTo .connecting

/-- R89, START: from COMPLETED or FAILED it is refused with BAD_STATE, as it is while busy. -/
def execStart (s : State) : Host.Outcome State Fault Refusal :=
  .next (s.whenStable (if s.st = .idle then s.beginSession else s.setCmdErr .badState))

/-- R90, CLEAR. -/
def execClear (s : State) : Host.Outcome State Fault Refusal := .next (s.whenStable s.clearSession)

/-- R87, ENCODE: R85's encode into FB, or CMD_ERR = 4. -/
def execEncode (arg : Byte) (s : State) : Host.Outcome State Fault Refusal :=
  .next (s.whenStable
    (if inRange arg s.nchunk then (s.storeDataFrame arg s.nchunk (s.chunk arg.toNat)).setCmdErr .ok
     else s.setCmdErr .index))

/-- R81, CKSUM: the reduction of `PB[A .. A+n-1]`, or CMD_ERR = 3 when the range leaves PB (an exact comparison). -/
def execCksum (s : State) : Host.Outcome State Fault Refusal :=
  .next (s.whenStable
    (if Config.payloadMax < s.cksAddr.toNat + s.cksLen.toNat then s.setCmdErr .range
     else { s with cksResult := reduceBytes (s.rangePB s.cksAddr.toNat s.cksLen.toNat) }.setCmdErr .ok))

/-- The rule of a decoded command (R60). -/
def runCommand (c : Command) (s : State) : Host.Outcome State Fault Refusal :=
  match c with
  | .nop => execNop s
  | .start => execStart s
  | .clear => execClear s
  | .encode arg => execEncode arg s
  | .cksum => execCksum s

end Sys2Proof.Machine
end

