-- ==== Sys2Proof/Machine/HostBus.lean ====
section
/-! DEFINITION. The host bus operations (43_host_interface.md R109 to R113). -/

namespace Sys2Proof.Machine

/-- R109, RD: `hrdata` is the register's word at the start of the cycle; a misaligned or reserved offset, and CMD, read 0. -/
def execRd (off : Byte) (s : State) : Host.Outcome State Fault Refusal := .next (s.driveRead (s.readAt off))

/-- R60: the decoding of a CMD write, BAD_OPCODE first. -/
def writeCmd (d : Word) (s : State) : Host.Outcome State Fault Refusal :=
  match decodeCommand d with
  | some c => runCommand c s
  | none => .next (s.setCmdErr .badOpcode)

/-- R110, WR. A misaligned, reserved or read-only offset is refused with BAD_ADDR; bits of `d` in reserved fields are
dropped. -/
def execWr (off : Byte) (d : Word) (s : State) : Host.Outcome State Fault Refusal :=
  match regAt off with
  | none => .next (s.setCmdErr .badAddr)
  | some .cmd => writeCmd d s
  | some .status => .next (s.setCmdErr .badAddr)
  | some .error => .next (s.setCmdErr .badAddr)
  | some .payloadLen => .next (s.writeLocked { s with payloadLen := d.setWidth 16 })
  | some .nchunk => .next (s.setCmdErr .badAddr)
  | some .ackTimeout => .next (s.writeLocked { s with ackTimeout := d.setWidth 16 })
  | some .settleDelay => .next (s.writeLocked { s with settleDelay := d.setWidth 16 })
  | some .timer => .next (s.setCmdErr .badAddr)
  | some .cksAddr => .next ({ s with cksAddr := d.setWidth 16 }.setCmdErr .ok)
  | some .cksLen => .next ({ s with cksLen := d.setWidth 16 }.setCmdErr .ok)
  | some .cksResult => .next (s.setCmdErr .badAddr)
  | some .frameLen => .next (s.setCmdErr .badAddr)
  | some .intCtrl => .next ({ s with ie := d.getLsbD 0 }.setCmdErr .ok)
  | some .txCount => .next (s.setCmdErr .badAddr)

/-- R111, RDB: a byte of PB, 0 at an address of 49 980 or more. -/
def execRdb (a : Half) (s : State) : Host.Outcome State Fault Refusal :=
  .next (s.driveRead (if a.toNat < Config.payloadMax then (s.readPB a.toNat).setWidth 32 else 0))

/-- R112, WRB: RANGE is checked first, then BAD_STATE. -/
def execWrb (a : Half) (b : Byte) (s : State) : Host.Outcome State Fault Refusal :=
  .next
    (if Config.payloadMax ≤ a.toNat then s.setCmdErr .range
     else if s.busy then s.setCmdErr .badState
     else (s.writePB a.toNat b).setCmdErr .ok)

/-- R113, RDF: a byte of FB, 0 at an offset of 244 or more. -/
def execRdf (k : Byte) (s : State) : Host.Outcome State Fault Refusal :=
  .next (s.driveRead (if k.toNat < Config.frameBytes then (s.readFB k.toNat).setWidth 32 else 0))

end Sys2Proof.Machine
end

