-- ==== Sys2Proof/Machine/Dispatch.lean ====
section
/-! DEFINITION. One arm for each constructor of `Instr`. -/

namespace Sys2Proof.Machine

def exec (i : Instr) (s : State) : Host.Outcome State Fault Refusal :=
  match i with
  | .nop => Sys2Proof.Machine.execNop s
  | .start => Sys2Proof.Machine.execStart s
  | .clear => Sys2Proof.Machine.execClear s
  | .encode arg => Sys2Proof.Machine.execEncode arg s
  | .cksum => Sys2Proof.Machine.execCksum s
  | .rd off => Sys2Proof.Machine.execRd off s
  | .wr off d => Sys2Proof.Machine.execWr off d s
  | .rdb a => Sys2Proof.Machine.execRdb a s
  | .wrb a b => Sys2Proof.Machine.execWrb a b s
  | .rdf k => Sys2Proof.Machine.execRdf k s
  | .data idx n chunk => Sys2Proof.Machine.execData idx n chunk s
  | .reset1 => Sys2Proof.Machine.execReset1 s
  | .reset2 => Sys2Proof.Machine.execReset2 s
  | .finalize => Sys2Proof.Machine.execFinalize s

end Sys2Proof.Machine
end

