-- ==== Sys2Proof/Machine/Step.lean ====
section
/-! DEFINITION. One step is one clock cycle (42_flow_control.md R88). -/

namespace Sys2Proof.Machine

/-- R88: a reset cycle (R131), else the host's operation, the rule of the STATE the cycle started in, and the default
update of ACK_LATCH. -/
def step (s : State) : Host.Outcome State Fault Refusal :=
  if s.input.rst then .next s.resetCycle
  else
    finishCycle s
      (match s.fetched with
       | some i => exec i s.beginCycle
       | none => .next s.beginCycle)

/-- `s` with the host writing a table row's word to CMD in the coming cycle (log 18). -/
def State.withFetchWord (s : State) (nbits w : Nat) : State := s.withCommandWord (tableWord nbits w)

end Sys2Proof.Machine
end

