-- ==== Sys2Proof/Machine/Run.lean ====
section
/-! DEFINITION. Runs: the frames a run issues (20_memory.md R54), its end and its outcome (70_reset_and_hazards.md R143). -/

namespace Sys2Proof.Machine

/-- The `tx_req` events of the next `fuel` cycles, in order (R54). -/
def framesSent (fuel : Nat) (s : State) : List TxReq :=
  match fuel with
  | 0 => []
  | k + 1 =>
    match step s with
    | .next t => t.out.txReq.toList ++ framesSent k t
    | .fault _ => []
    | .refused _ => []

/-- R143: the states a run ends in, COMPLETED and FAILED. -/
def ended (s : State) : Bool := s.st == .completed || s.st == .failed

/-- R143: the end of a run, and the state at that cycle's start, from which the outcome is read. -/
structure RunEnd where
  cycle : Nat
  state : State
  deriving DecidableEq, Repr

/-- How far the last START of a run has come. -/
inductive LastStart where
  /-- there is none, or it was refused, or a reset followed it: no end of run for that START -/
  | noEnd
  /-- it left IDLE, and no cycle since has started in COMPLETED or FAILED -/
  | pending
  /-- the run has its end -/
  | done (e : RunEnd)
  deriving DecidableEq, Repr

/-- At the start of cycle `k`, in `s`: the first cycle that starts in COMPLETED or FAILED after the last START is the end. -/
def LastStart.atCycle (p : LastStart) (k : Nat) (s : State) : LastStart :=
  match p with
  | .noEnd => .noEnd
  | .pending => if ended s then .done ⟨k, s⟩ else .pending
  | .done e => .done e

/-- After the inputs of the cycle that starts in `s`: a reset leaves no end for the START before it, a START in IDLE is the
new last START, and a START elsewhere is refused, so that it has no end of run. -/
def LastStart.afterCycle (p : LastStart) (s : State) : LastStart :=
  if s.input.rst then .noEnd
  else if s.fetched = some .start then (if s.st = .idle then .pending else .noEnd)
  else p

/-- The end, where there is one. -/
def LastStart.runEnd (p : LastStart) : Option RunEnd :=
  match p with
  | .noEnd => none
  | .pending => none
  | .done e => some e

/-- The end of a run whose cycle `k` starts in `s` with the last START at `p`, and which goes on for `fuel` cycles. -/
def runEndFrom (fuel k : Nat) (p : LastStart) (s : State) : Option RunEnd :=
  match fuel with
  | 0 => (p.atCycle k s).runEnd
  | n + 1 =>
    match step s with
    | .next t => runEndFrom n (k + 1) ((p.atCycle k s).afterCycle s) t
    | .fault _ => none
    | .refused _ => none

/-- R143: the end of the run of `fuel` cycles from `s`, its cycles counted from 0: the first cycle, after the one that issued
the last START of the run, at whose start STATE is COMPLETED or FAILED. -/
def runEnd (fuel : Nat) (s : State) : Option RunEnd := runEndFrom fuel 0 .noEnd s

/-- R143: the cycle the run ends at. -/
def endCycleOf (fuel : Nat) (s : State) : Option Nat := (runEnd fuel s).map fun e => e.cycle

/-- R143: the outcome of a run that has an end: 0 is DOC's success, another code the failure. -/
def outcomeOf (fuel : Nat) (s : State) : Option FailCode := (runEnd fuel s).map fun e => e.state.err

end Sys2Proof.Machine
end

