-- ==== Sys2Proof/Safety.lean ====
section
/-! DEFINITION. What the claims are about: the invariants of a session, what is outstanding at the transport, the shortest
session, and the duties of the environment (20_memory.md R55, 70_reset_and_hazards.md R133). -/

namespace Sys2Proof.Safety

open Sys2Proof.Machine

/-! ### Phases of a session -/

/-- The states in which the connection is held: from the accepted `conn_rsp` to the terminal entry (R20, R118). -/
def holdsConnection (st : SeqState) : Bool :=
  match st with
  | .idle => false
  | .connecting => false
  | .subscribing => true
  | .connected => true
  | .resetWr1 => true
  | .resetSettle => true
  | .resetWr2 => true
  | .xferSend => true
  | .xferWr => true
  | .xferWait => true
  | .finWr1 => true
  | .finWr2 => true
  | .completed => false
  | .failed => false

/-- The states with both subscriptions up: from CONNECTED to COMPLETED (R93, R107). -/
def subscribed (st : SeqState) : Bool :=
  match st with
  | .idle => false
  | .connecting => false
  | .subscribing => false
  | .connected => true
  | .resetWr1 => true
  | .resetSettle => true
  | .resetWr2 => true
  | .xferSend => true
  | .xferWr => true
  | .xferWait => true
  | .finWr1 => true
  | .finWr2 => true
  | .completed => true
  | .failed => false

/-- The states from XFER_SEND to FIN_WR2 (R106). -/
def transferring (st : SeqState) : Bool :=
  st == .xferSend || st == .xferWr || st == .xferWait || finalizing st
where
  /-- FIN_WR1 and FIN_WR2 -/
  finalizing (st : SeqState) : Bool := st == .finWr1 || st == .finWr2

/-- The states of a session before its first data frame, and IDLE: IDX is 0 there (R16). -/
def beforeTransfer (st : SeqState) : Bool :=
  match st with
  | .idle => true
  | .connecting => true
  | .subscribing => true
  | .connected => true
  | .resetWr1 => true
  | .resetSettle => true
  | .resetWr2 => true
  | .xferSend => false
  | .xferWr => false
  | .xferWait => false
  | .finWr1 => false
  | .finWr2 => false
  | .completed => false
  | .failed => false

/-- The states with a `tx_req` emitted and not yet answered (R39, R54). -/
def outstandingTx (st : SeqState) : Bool :=
  st == .resetWr1 || st == .resetWr2 || st == .xferWr || st == .finWr1 || st == .finWr2

/-- How many frames a session that has not failed has issued on reaching each state, with IDX = `i` (R37, R107). -/
def framesIssued (st : SeqState) (i : Nat) : Nat :=
  match st with
  | .idle => 0
  | .connecting => 0
  | .subscribing => 0
  | .connected => 0
  | .resetWr1 => 1
  | .resetSettle => 1
  | .resetWr2 => 2
  | .xferSend => i + 2
  | .xferWr => i + 3
  | .xferWait => i + 3
  | .finWr1 => i + 4
  | .finWr2 => i + 5
  | .completed => i + 5
  | .failed => 0

/-! ### Invariants -/

/-- PB and FB are in canonical form (R40; log 24). -/
def MemoryInv (s : State) : Prop := Memory.wf Config.payloadMax s.pb = true ∧ Memory.wf Config.frameBytes s.fb = true

/-- What holds of the session in every state a run reaches. -/
structure SessionInv (s : State) : Prop where
  /-- R20, R118: CONN_UP is 1 exactly while the connection is held. -/
  connUp : s.connUp = holdsConnection s.st
  /-- R106 and R51: a busy session has 1 to 255 chunks. -/
  sized : s.busy = true → 1 ≤ s.nchunk.toNat ∧ s.nchunk.toNat ≤ Config.nMax
  /-- R106: from XFER_SEND to FIN_WR2, IDX ≤ N − 1. -/
  idxBelow : transferring s.st = true → s.idx.toNat < s.nchunk.toNat
  /-- R100: the finalize frames follow the last packet. -/
  idxLast : transferring.finalizing s.st = true → s.idx.toNat + 1 = s.nchunk.toNat
  /-- R16: IDX is 0 before the first packet. -/
  idxZero : beforeTransfer s.st = true → s.idx = 0
  /-- R16: IDX ≤ 254. -/
  idxBound : s.idx.toNat ≤ 254
  /-- R115: "ERR = 0 in every state but FAILED". -/
  errOnlyFailed : s.err = .none ↔ s.st ≠ .failed
  /-- R116: FAIL_IDX is the IDX of the failure, which keeps its value. -/
  failIdx : s.st = .failed → s.failIdx = s.idx
  /-- R93: both subscriptions up from CONNECTED on, not both in SUBSCRIBING. -/
  subBoth : subscribed s.st = true → s.subOk = 0b11#2
  /-- R93: SUBSCRIBING is left as soon as both are up. -/
  subPart : s.st = .subscribing → s.subOk ≠ 0b11#2
  /-- R19: no subscription before SUBSCRIBING. -/
  subNone : s.st = .connecting → s.subOk = 0b00#2
  /-- R17, R96: in RESET_SETTLE the limit is not yet reached. -/
  settleTimer : s.st = .resetSettle → s.timer.toNat < max s.settleDelay.toNat 1
  /-- R17, R100: in XFER_WAIT the limit is not yet reached. -/
  waitTimer : s.st = .xferWait → s.timer.toNat < max s.ackTimeout.toNat 1
  /-- R107: the frames issued so far, in a session that has not failed. -/
  txCount : s.st ≠ .failed → s.txCount.toNat = framesIssued s.st s.idx.toNat
  /-- R37: at most 259 frames. -/
  txBound : s.txCount.toNat ≤ 259

/-- R35, R86: FRAME_LEN is 0 or 244, and when it is 244 every byte of FB has been written. -/
def FrameInv (s : State) : Prop :=
  s.frameLen = 0 ∨ (s.frameLen = 244 ∧ ∀ k, k < Config.frameBytes → (Memory.read s.fb k).isSome = true)

/-! ### Runs -/

/-- R88: the host's operation of the cycle that starts in `s`, run on the state with no output driven yet. -/
def hostPart (s : State) : Host.Outcome State Fault Refusal :=
  match s.fetched with
  | some i => exec i s.beginCycle
  | none => .next s.beginCycle

/-- R15, R107: the states a cycle without reset may lead to from each state. -/
def mayFollow (st next : SeqState) : Bool :=
  match st with
  | .idle => next == .idle || next == .connecting || next == .failed
  | .connecting => next == .connecting || next == .subscribing || next == .failed
  | .subscribing => next == .subscribing || next == .connected || next == .failed
  | .connected => next == .resetWr1
  | .resetWr1 => next == .resetWr1 || next == .resetSettle || next == .failed
  | .resetSettle => next == .resetSettle || next == .resetWr2
  | .resetWr2 => next == .resetWr2 || next == .xferSend || next == .failed
  | .xferSend => next == .xferWr
  | .xferWr => next == .xferWr || next == .xferWait || next == .failed
  | .xferWait => next == .xferWait || next == .xferSend || next == .finWr1 || next == .failed
  | .finWr1 => next == .finWr1 || next == .finWr2 || next == .failed
  | .finWr2 => next == .finWr2 || next == .completed || next == .failed
  | .completed => next == .completed || next == .idle
  | .failed => next == .failed || next == .idle

/-- R94 to R101: whether a rule issues a frame in the cycle that starts in `s`. -/
def issuesFrame (s : State) : Bool :=
  match s.st with
  | .idle => false
  | .connecting => false
  | .subscribing => false
  | .connected => true
  | .resetWr1 => false
  | .resetSettle => s.input.tick && decide (s.settleDelay.toNat ≤ s.timer.toNat + 1)
  | .resetWr2 => false
  | .xferSend => inRange s.idx s.nchunk
  | .xferWr => false
  | .xferWait => (s.ackLatch || s.input.ackIn) && decide (s.idx.toNat + 1 = s.nchunk.toNat)
  | .finWr1 => s.input.txDone == .ok
  | .finWr2 => false
  | .completed => false
  | .failed => false

/-- R103: the inputs of a cycle that count in state `st`, the others at rest. A notification counts as such, whichever
source it comes from. -/
def relevantInputs (st : SeqState) (c : CycleIn) : CycleIn :=
  { rst := c.rst
    hop := c.hop
    connRsp := if st = .connecting then c.connRsp else .none
    subRsp0 := if st = .subscribing then c.subRsp0 else .none
    subRsp1 := if st = .subscribing then c.subRsp1 else .none
    txDone := if outstandingTx st then c.txDone else .none
    ntf0 := c.ackIn
    ntf1 := false
    tick := (st == .resetSettle || st == .xferWait) && c.tick }

/-- R142: the cycles of the shortest session that succeeds, with a settling delay of `d` ticks and `n` packets: each
answer comes in the cycle after its request, both subscriptions together, every cycle of RESET_SETTLE holds a tick, and
each acknowledgment comes with the `tx_done` of its frame. -/
def fastSession (d n : Nat) : List CycleIn :=
  [{ hop := .wr 0x00#8 Command.start.word }, { connRsp := .ok }, { subRsp0 := .ok, subRsp1 := .ok }, ({} : CycleIn),
    { txDone := .ok }] ++
  List.replicate (max d 1) { tick := true } ++ [{ txDone := .ok }] ++
  (List.replicate n [({} : CycleIn), { txDone := .ok, ntf1 := true }, {}]).flatten ++
  [{ txDone := .ok }, { txDone := .ok }]

/-- R107, R54: the frames of a session over the payload of `s`, in order. -/
def sessionFrames (s : State) : List TxReq :=
  let p := s.params
  [⟨.reset1, p.writeHandle, p.reset1, p.writeRespCtrl⟩, ⟨.reset2, p.writeHandle, p.reset2, p.writeRespCtrl⟩] ++
  ((List.range s.nchunk.toNat).map fun i =>
    ⟨.data, p.writeHandle, dataFrame p (BitVec.ofNat 8 i) s.nchunk (s.chunk i), p.writeRespData⟩) ++
  [⟨.finalize, p.writeHandle, p.finalize, p.writeRespCtrl⟩, ⟨.finalize, p.writeHandle, p.finalize, p.writeRespCtrl⟩]

/-- How many ticks a list of cycles holds. -/
def tickCount (cycles : List CycleIn) : Nat :=
  match cycles with
  | [] => 0
  | c :: rest => (if c.tick then 1 else 0) + tickCount rest

/-- A cycle with no reset and no notification (R108). -/
def silent (c : CycleIn) : Bool := !c.rst && !c.ackIn

/-- R142: with one tick per P_TICK, a delay of `d` ticks lasts between `(d − 1)·P_TICK` and `d·P_TICK` after the event that
started it, in microseconds. -/
def delayBounds (p : Params) (d : Nat) : Nat × Nat := ((d - 1) * p.tickPeriod, d * p.tickPeriod)

/-! ### The environment -/

/-- Whether the sequencer awaits an answer of notification source `k` (0 or 1): its request is out, from the entry into
SUBSCRIBING on, and the source has not answered OK yet (R54, R55, R93). -/
def awaitsSub (s : State) (k : Nat) : Bool := s.st == .subscribing && !s.subOk.getLsbD k

/-- R55, the transport's duty: the cycle holds only answers that are awaited in `s`, so no answer comes in the cycle of its
request, none comes without a request, and none comes twice. -/
def answersAwaited (s : State) (c : CycleIn) : Bool :=
  (c.connRsp == .none || s.st == .connecting) && (c.subRsp0 == .none || awaitsSub s 0) &&
    (c.subRsp1 == .none || awaitsSub s 1) && (c.txDone == .none || outstandingTx s.st)

/-- The cycle without the answers that are not awaited in `s`. -/
def dropExtraAnswers (s : State) (c : CycleIn) : CycleIn :=
  { c with
    connRsp := if s.st = .connecting then c.connRsp else .none
    subRsp0 := if awaitsSub s 0 then c.subRsp0 else .none
    subRsp1 := if awaitsSub s 1 then c.subRsp1 else .none
    txDone := if outstandingTx s.st then c.txDone else .none }

/-- R133 steps 3 and 5: the host has written every byte of the payload since reset, and the payload is not empty and not
too large. -/
def payloadReady (s : State) : Bool :=
  1 ≤ s.payloadLen.toNat && s.payloadLen.toNat ≤ Config.payloadMax &&
    (List.range s.payloadLen.toNat).all fun a => (Memory.read s.pb a).isSome

/-- R41: the RawPayload, `PB[0..L-1]`. -/
def rawPayload (s : State) : List Byte := s.rangePB 0 s.payloadLen.toNat

end Sys2Proof.Safety
end

