-- ==== Sys2Proof/Certificates/Slice0/Obligations.lean ====
section
/-! DEFINITION. The statements for the provers. Each docstring names the rule of spec/ it formalises. -/

open Sys2Proof Sys2Proof.Machine Sys2Proof.Safety

/-! ### Encodings (30_encoding.md) -/

/-- The encoder and the decoder agree: the decoder gives back every well-formed instruction, with every operand, whatever
the parameters (R58, R61, R71, R72). -/
def Obligations.DecodeOfEncodeIsTheInstruction : Prop :=
  ∀ (p : Params) (i : Instr), i.wellFormed = true → decode p (encode p i) = .ok i

/-- The other direction: what the decoder accepts is a well-formed instruction whose code is the one read, so no bus
operation, command word or frame has two readings and no wrong frame is accepted (R59, R61, R71). -/
def Obligations.EncodeOfDecodeIsTheCode : Prop :=
  ∀ (p : Params) (c : Code) (i : Instr), decode p c = .ok i → i.wellFormed = true ∧ encode p i = c

/-- R58: a word is a command exactly when it matches the command's row of the opcode map. -/
def Obligations.CommandWordsAreTheRowsOfTheMap : Prop :=
  ∀ (w : Word) (arg : Byte),
    (decodeCommand w = some .nop ↔ w &&& 0xFFFFFFFF#32 = 0x00000000#32) ∧
    (decodeCommand w = some .start ↔ w &&& 0xFFFFFFFF#32 = 0x00000001#32) ∧
    (decodeCommand w = some .clear ↔ w &&& 0xFFFFFFFF#32 = 0x00000002#32) ∧
    (decodeCommand w = some (.encode arg) ↔ w &&& 0xFFFF00FF#32 = 0x00000003#32 ∧ w.extractLsb' 8 8 = arg) ∧
    (decodeCommand w = some .cksum ↔ w &&& 0xFFFFFFFF#32 = 0x00000004#32)

/-- A few command words and bus operations read bit by bit from R57 and R58. -/
def Obligations.SampleCodesDecode : Prop :=
  decodeTableWord 32 0x00000000 = some .nop ∧ decodeTableWord 32 0x00000001 = some .start ∧
  decodeTableWord 32 0x00000002 = some .clear ∧ decodeTableWord 32 0x0000FE03 = some (.encode 254#8) ∧
  decodeTableWord 32 0x00000004 = some .cksum ∧ decodeTableWord 32 0x00000105 = none ∧
  decodeTableWord 32 0x00010000 = none ∧
  decodeBus (.wr 0x00#8 0x00000103#32) = .ok (.encode 1#8) ∧
  decodeBus (.wr 0x14#8 0x000002EE#32) = .ok (.wr 0x14#8 0x000002EE#32) ∧
  decodeBus (.rdf 242#8) = .ok (.rdf 242#8)

/-- R59: a word with OPC above 4, a nonzero RSVD, or a nonzero ARG under an OPC other than 3 is an illegal command, and
writing it to CMD has no effect but CMD_ERR = 1, in every state. -/
def Obligations.IllegalCommandWordOnlySetsBadOpcode : Prop :=
  ∀ (s : State) (w : Word),
    5 ≤ (w.extractLsb' 0 8).toNat ∨ w.extractLsb' 16 16 ≠ 0#16 ∨
      (w.extractLsb' 0 8 ≠ 3#8 ∧ w.extractLsb' 8 8 ≠ 0#8) →
    decodeCommand w = none ∧ decodeWord w = .error .badOpcode ∧
      exec (.wr 0x00#8 w) s = .next { s with cmdErr := .badOpcode }

/-- R60: the decoding of a CMD write: BAD_OPCODE for no row, BAD_STATE while busy, else the row's own rule. -/
def Obligations.CommandWriteIsDecodedInOrder : Prop :=
  ∀ (s : State) (w : Word),
    exec (.wr 0x00#8 w) s =
      match decodeCommand w with
      | none => .next { s with cmdErr := .badOpcode }
      | some c => if s.busy then .next { s with cmdErr := .badState } else exec c.toInstr s

/-- R61: the 244 bytes of a data frame, field by field, its trailer computed from the bytes before it. -/
def Obligations.DataFrameLayout : Prop :=
  ∀ (p : Params) (i : Byte) (n : BitVec 9) (chunk : Vector Byte 196),
    let F := dataFrame p i n chunk
    F.length = 244 ∧
    (∀ k : Fin 4, F[k.val]? = some p.frameStart[k.val]) ∧
    F[4]? = some p.lenField ∧
    F[5]? = some (BitVec.ofNat 8 (i.toNat % 256)) ∧ F[6]? = some (BitVec.ofNat 8 (i.toNat / 256)) ∧
    F[7]? = some p.idxPad ∧
    (∀ k : Fin 28, F[8 + k.val]? = some p.hdrA[k.val]) ∧
    F[36]? = some (BitVec.ofNat 8 n.toNat) ∧
    F[37]? = some (BitVec.ofNat 8 (i.toNat % 256)) ∧ F[38]? = some (BitVec.ofNat 8 (i.toNat / 256)) ∧
    F[39]? = some p.idxPad ∧
    (∀ k : Fin 4, F[40 + k.val]? = some p.hdrB[k.val]) ∧
    (∀ k : Fin 2, F[44 + k.val]? = some p.hdrC[k.val]) ∧
    (∀ k : Fin 196, F[46 + k.val]? = some chunk[k.val]) ∧
    F[242]? = some (checksumMod256 (F.take 242)) ∧
    F[243]? = some (trailingByte (F.take 243))

/-! ### The checksum engine (40_checksum.md) -/

/-- R77: the one-pass reduction gives `CK = checksum_mod256(X)` and `TB = trailing_byte(X ‖ [CK])`, and reports the
accumulator before CK is folded in, for every byte string X. -/
def Obligations.ReductionComputesBothChecksums : Prop :=
  ∀ X : List Byte,
    reduceBytes X =
      ⟨checksumMod256 X, trailingByte (X ++ [checksumMod256 X]), BitVec.ofNat 16 (byteSum X % 65536)⟩

/-- R78: the triple of a reduction as numbers, in both forms the rule gives for TB, and its place in CKS_RESULT. -/
def Obligations.ReductionTriple : Prop :=
  ∀ X : List Byte,
    let S := byteSum X
    let r := reduceBytes X
    r.ck.toNat = S % 256 ∧ r.tb.toNat = (S + S % 256) / 256 % 256 ∧ r.sum16.toNat = S % 65536 ∧
    r.tb.toNat = (S / 256 + if 128 ≤ S % 256 then 1 else 0) % 256 ∧
    r.word.toNat = r.sum16.toNat * 65536 + r.tb.toNat * 256 + r.ck.toNat

/-- R79: the bytes of a data frame before TB sum to at most 61 965, so no accumulator wraps and TB is the exact high byte
of the sum, for all parameters and every chunk. -/
def Obligations.DataFrameSumNeverWraps : Prop :=
  ∀ (p : Params) (i : Byte) (n : BitVec 9) (c : Vector Byte 196),
    let Y := (dataFrame p i n c).take 243
    byteSum Y ≤ 61965 ∧ (frameChecksum p i n c).tb.toNat = byteSum Y / 256 ∧
      (frameChecksum p i n c).sum16.toNat = byteSum ((dataFrame p i n c).take 242)

/-! ### The encoder (41_frame_encoder.md) -/

/-- R82, R83: N is the exact `ceil(L / 196)`, and N ≤ 255 exactly when L ≤ 49 980. -/
def Obligations.ChunkCountIsExactAndBounded : Prop :=
  ∀ s : State,
    s.nchunk.toNat = (s.payloadLen.toNat + 195) / 196 ∧ s.nchunk.toNat ≤ 335 ∧
      (s.nchunk.toNat ≤ 255 ↔ s.payloadLen.toNat ≤ 49980)

/-- R84: byte k of chunk i is PB[196·i + k] below L and 0x00 otherwise; the N chunks one after another, cut to L bytes,
are the payload, and what follows is N·196 − L zero bytes, 0 to 195 of them. -/
def Obligations.ChunksAreThePayloadZeroPadded : Prop :=
  ∀ s : State,
    (∀ (i : Nat) (k : Fin 196),
      (s.chunk i)[k.val] = if 196 * i + k.val < s.payloadLen.toNat then s.readPB (196 * i + k.val) else 0) ∧
    ((List.range s.nchunk.toNat).map fun i => (s.chunk i).toList).flatten =
      rawPayload s ++ List.replicate (196 * s.nchunk.toNat - s.payloadLen.toNat) 0 ∧
    196 * s.nchunk.toNat - s.payloadLen.toNat ≤ 195

/-- R85's corner case: two data frames of one parameter set and one N agree at every offset but 5 and 37 (index), 46..241
(chunk) and 242..243 (trailer). -/
def Obligations.FramesOfASessionDifferOnlyInIndexChunkTrailer : Prop :=
  ∀ (p : Params) (i j : Byte) (n : BitVec 9) (c d : Vector Byte 196) (k : Nat),
    k < 46 → k ≠ 5 → k ≠ 37 → (dataFrame p i n c)[k]? = (dataFrame p j n d)[k]?

/-! ### Commands -/

/-- R114: NOP sets CMD_ERR to 0, or to 2 while busy, and changes nothing else. -/
def Obligations.NopOnlySetsTheCommandStatus : Prop :=
  ∀ s : State,
    decodeCommand 0x00000000#32 = some .nop ∧
      exec .nop s = .next { s with cmdErr := if s.busy then .badState else .ok }

/-- R89: START. Refused with CMD_ERR = 2 outside IDLE. In IDLE (where CONN_UP and IDX are 0, see SessionInvariant) it
zeroes the session, then L = 0 fails with InvalidFormat, N > 255 with PayloadTooLarge, and otherwise the connection is
requested and STATE is CONNECTING. `latchAssigned` is the model's own record that this cycle assigned ACK_LATCH (log 8). -/
def Obligations.StartChecksTheSizeThenConnects : Prop :=
  ∀ s : State,
    let L := s.payloadLen.toNat
    let N := (L + 195) / 196
    decodeCommand 0x00000001#32 = some .start ∧
    (s.st ≠ .idle → exec .start s = .next { s with cmdErr := .badState }) ∧
    (s.st = .idle → s.connUp = false → s.idx = 0 →
      exec .start s =
        .next
          { s with
            cmdErr := .ok, idx := 0, timer := 0, ackLatch := false, latchAssigned := true, subOk := 0, txCount := 0
            err := if L = 0 then .invalidFormat else if 255 < N then .payloadTooLarge else .none
            failState := .idle, failIdx := 0
            st := if L = 0 ∨ 255 < N then .failed else .connecting
            out := if L = 0 ∨ 255 < N then s.out else { s.out with connReq := some s.params.deviceAddr } })

/-- R90: CLEAR returns to IDLE from every stable state and zeroes the session, keeping PB, PAYLOAD_LEN, ACK_TIMEOUT,
SETTLE_DELAY, CKS_*, FB, FRAME_LEN and IE; `irq` falls; while busy it is refused; CONN_UP is 0 in every stable state of a
session. `latchAssigned` is the model's own record that this cycle assigned ACK_LATCH (log 8). -/
def Obligations.ClearReturnsToIdle : Prop :=
  ∀ s : State,
    decodeCommand 0x00000002#32 = some .clear ∧
    (SessionInv s → s.busy = false → s.connUp = false) ∧
    (s.busy = true → exec .clear s = .next { s with cmdErr := .badState }) ∧
    (s.busy = false →
      ∃ t, exec .clear s = .next t ∧ t.irq = false ∧
        t = { s with
              st := .idle, idx := 0, timer := 0, ackLatch := false, latchAssigned := true, subOk := 0, txCount := 0
              err := .none, failState := .idle, failIdx := 0, cmdErr := .ok })

/-- R87, R85: ENCODE. With ARG below N ≤ 255 it fills FB with the frame of chunk ARG, sets FRAME_LEN to 244 and
CKS_RESULT, and changes nothing else but CMD_ERR; out of range it sets CMD_ERR = 4 only, while busy CMD_ERR = 2 only. -/
def Obligations.EncodeFillsTheFrameBufferOrReportsIndex : Prop :=
  ∀ (s : State) (arg : Byte),
    let N := (s.payloadLen.toNat + 195) / 196
    decodeCommand (0x00000003#32 ||| (arg.setWidth 32 <<< 8)) = some (.encode arg) ∧
    (s.busy = true → exec (.encode arg) s = .next { s with cmdErr := .badState }) ∧
    (s.busy = false → 255 < N ∨ N ≤ arg.toNat → exec (.encode arg) s = .next { s with cmdErr := .index }) ∧
    (s.busy = false → N ≤ 255 → arg.toNat < N →
      ∃ fb', exec (.encode arg) s =
          .next
            { s with
              fb := fb', frameLen := 244, cmdErr := .ok
              cksResult := frameChecksum s.params arg s.nchunk (s.chunk arg.toNat) } ∧
        ∀ k, Memory.read fb' k = (dataFrame s.params arg s.nchunk (s.chunk arg.toNat))[k]?)

/-- R81: CKSUM. A range that leaves PB sets CMD_ERR = 3 only; any other, empty or not, sets CKS_RESULT to the triple of
R78 over `PB[A .. A+n−1]` and CMD_ERR to 0, and nothing else; while busy CMD_ERR = 2 only. -/
def Obligations.CksumReducesTheRangeOrReportsRange : Prop :=
  ∀ s : State,
    let A := s.cksAddr.toNat
    let n := s.cksLen.toNat
    let S := byteSum ((List.range n).map fun k => s.readPB (A + k))
    decodeCommand 0x00000004#32 = some .cksum ∧
    (s.busy = true → exec .cksum s = .next { s with cmdErr := .badState }) ∧
    (s.busy = false → 49980 < A + n → exec .cksum s = .next { s with cmdErr := .range }) ∧
    (s.busy = false → A + n ≤ 49980 →
      exec .cksum s =
        .next
          { s with
            cmdErr := .ok
            cksResult :=
              ⟨BitVec.ofNat 8 (S % 256), BitVec.ofNat 8 ((S + S % 256) / 256 % 256), BitVec.ofNat 16 (S % 65536)⟩ })

/-! ### Host bus operations (43_host_interface.md) -/

/-- R109: RD(off) drives `hrdata` with the word of the register at the offset, 0 at a misaligned or reserved offset and at CMD,
and changes nothing else. -/
def Obligations.ReadDrivesTheRegisterWord : Prop :=
  ∀ (s : State) (off : Byte),
    decodeBus (.rd off) = .ok (.rd off) ∧
    exec (.rd off) s = .next { s with out := { s.out with hrdata := some (s.readAt off) } } ∧
    (off.toNat % 4 ≠ 0 ∨ 0x38 ≤ off.toNat ∨ off.toNat = 0x00 → s.readAt off = 0) ∧
    s.readAt 0x04#8 = s.statusWord ∧ s.readAt 0x08#8 = s.errorWord ∧
    s.readAt 0x0C#8 = BitVec.ofNat 32 s.payloadLen.toNat ∧
    s.readAt 0x10#8 = BitVec.ofNat 32 ((s.payloadLen.toNat + 195) / 196) ∧
    s.readAt 0x14#8 = BitVec.ofNat 32 s.ackTimeout.toNat ∧ s.readAt 0x18#8 = BitVec.ofNat 32 s.settleDelay.toNat ∧
    s.readAt 0x1C#8 = BitVec.ofNat 32 s.timer.toNat ∧ s.readAt 0x20#8 = BitVec.ofNat 32 s.cksAddr.toNat ∧
    s.readAt 0x24#8 = BitVec.ofNat 32 s.cksLen.toNat ∧
    s.readAt 0x28#8 =
      BitVec.ofNat 32 (s.cksResult.sum16.toNat * 65536 + s.cksResult.tb.toNat * 256 + s.cksResult.ck.toNat) ∧
    s.readAt 0x2C#8 = BitVec.ofNat 32 s.frameLen.toNat ∧
    s.readAt 0x30#8 = BitVec.ofNat 32 ((if s.ie then 1 else 0) + if s.irq then 2 else 0) ∧
    s.readAt 0x34#8 = BitVec.ofNat 32 s.txCount.toNat

/-- R110: WR. BAD_ADDR at a misaligned, reserved or read-only offset; CMD decodes and runs the word (R60); the three locked
registers are refused while busy; CKS_ADDR, CKS_LEN and IE are writable in every state; the bits of reserved fields are
dropped; nothing else changes. -/
def Obligations.WriteReachesOnlyTheNamedField : Prop :=
  ∀ (s : State) (off : Byte) (d : Word),
    (off.toNat % 4 ≠ 0 ∨ 0x38 ≤ off.toNat ∨
        off ∈ [0x04#8, 0x08#8, 0x10#8, 0x1C#8, 0x28#8, 0x2C#8, 0x34#8] →
      exec (.wr off d) s = .next { s with cmdErr := .badAddr }) ∧
    exec (.wr 0x00#8 d) s =
      (match decodeCommand d with
      | none => .next { s with cmdErr := .badOpcode }
      | some c => if s.busy then .next { s with cmdErr := .badState } else exec c.toInstr s) ∧
    (off ≠ 0x00#8 → decodeBus (.wr off d) = .ok (.wr off d)) ∧
    (s.busy = true → off ∈ [0x0C#8, 0x14#8, 0x18#8] → exec (.wr off d) s = .next { s with cmdErr := .badState }) ∧
    (s.busy = false →
      exec (.wr 0x0C#8 d) s = .next { s with payloadLen := d.extractLsb' 0 16, cmdErr := .ok } ∧
      exec (.wr 0x14#8 d) s = .next { s with ackTimeout := d.extractLsb' 0 16, cmdErr := .ok } ∧
      exec (.wr 0x18#8 d) s = .next { s with settleDelay := d.extractLsb' 0 16, cmdErr := .ok }) ∧
    exec (.wr 0x20#8 d) s = .next { s with cksAddr := d.extractLsb' 0 16, cmdErr := .ok } ∧
    exec (.wr 0x24#8 d) s = .next { s with cksLen := d.extractLsb' 0 16, cmdErr := .ok } ∧
    exec (.wr 0x30#8 d) s = .next { s with ie := d.getLsbD 0, cmdErr := .ok }

/-- R111: RDB drives `hrdata` with the byte, 0 at 49 980 and above, in every state, and changes nothing else. A byte not
written since reset is the free value of log 5. -/
def Obligations.ReadByteDrivesThePayloadByte : Prop :=
  ∀ (s : State) (a : Half),
    decodeBus (.rdb a) = .ok (.rdb a) ∧
    exec (.rdb a) s =
      .next
        { s with
          out := { s.out with hrdata := some (if a.toNat < 49980 then BitVec.ofNat 32 (s.readPB a.toNat).toNat else 0) } }

/-- R112: WRB. RANGE first, then BAD_STATE while busy; otherwise the byte reads as written, every other byte of PB as
before, and nothing else changes but CMD_ERR. -/
def Obligations.WriteByteStoresOnePayloadByte : Prop :=
  ∀ (s : State) (a : Half) (b : Byte),
    decodeBus (.wrb a b) = .ok (.wrb a b) ∧
    (49980 ≤ a.toNat → exec (.wrb a b) s = .next { s with cmdErr := .range }) ∧
    (a.toNat < 49980 → s.busy = true → exec (.wrb a b) s = .next { s with cmdErr := .badState }) ∧
    (a.toNat < 49980 → s.busy = false →
      ∃ t, exec (.wrb a b) s = .next t ∧ t = { s with pb := t.pb, cmdErr := .ok } ∧
        t.readPB a.toNat = b ∧ ∀ x, x ≠ a.toNat → t.readPB x = s.readPB x)

/-- R113: RDF drives `hrdata` with the byte of FB, 0 at 244 and above, in every state, and changes nothing else. A byte of FB
that no encode has written since reset is the free value of log 6. -/
def Obligations.ReadFrameByteDrivesTheFrameByte : Prop :=
  ∀ (s : State) (k : Byte),
    decodeBus (.rdf k) = .ok (.rdf k) ∧
    exec (.rdf k) s =
      .next
        { s with
          out := { s.out with hrdata := some (if k.toNat < 244 then BitVec.ofNat 32 (s.readFB k.toNat).toNat else 0) } }

/-! ### Frames the sequencer issues -/

/-- R71: a control frame is issued verbatim from its parameter, counted in TX_COUNT (R37), and nothing else changes. -/
def Obligations.ControlFramesAreIssuedVerbatim : Prop :=
  ∀ s : State,
    let h := s.params.writeHandle
    let e := s.params.writeRespCtrl
    exec .reset1 s =
      .next { s with txCount := s.txCount + 1, out := { s.out with txReq := some ⟨.reset1, h, s.params.reset1, e⟩ } } ∧
    exec .reset2 s =
      .next { s with txCount := s.txCount + 1, out := { s.out with txReq := some ⟨.reset2, h, s.params.reset2, e⟩ } } ∧
    exec .finalize s =
      .next { s with txCount := s.txCount + 1, out := { s.out with txReq := some ⟨.finalize, h, s.params.finalize, e⟩ } }

/-- R85, R98: issuing DATA with `i < N ≤ 255` stores the frame in FB with FRAME_LEN and CKS_RESULT, sets ACK_LATCH to this
cycle's notifications, emits the frame and counts it, and changes nothing else; an index out of range takes the failure
entry with code 7. -/
def Obligations.DataFrameIsStoredAndIssued : Prop :=
  ∀ (s : State) (i : Byte) (n : BitVec 9) (c : Vector Byte 196),
    (n.toNat ≤ 255 → i.toNat < n.toNat →
      ∃ fb', exec (.data i n c) s =
          .next
            { s with
              fb := fb', frameLen := 244, cksResult := frameChecksum s.params i n c
              ackLatch := s.input.ntf0 || s.input.ntf1, latchAssigned := true, txCount := s.txCount + 1
              out := { s.out with
                       txReq := some ⟨.data, s.params.writeHandle, dataFrame s.params i n c, s.params.writeRespData⟩ } } ∧
        ∀ k, Memory.read fb' k = (dataFrame s.params i n c)[k]?) ∧
    (255 < n.toNat ∨ n.toNat ≤ i.toNat → exec (.data i n c) s = .next (s.raiseFail s .indexOutOfRange))

/-! ### Codes, flags and register words (10_state.md) -/

/-- R15, R115, R119: the codes of STATE, ERR and CMD_ERR. -/
def Obligations.CodesOfStatesAndErrors : Prop :=
  [SeqState.idle, .connecting, .subscribing, .connected, .resetWr1, .resetSettle, .resetWr2, .xferSend, .xferWr,
      .xferWait, .finWr1, .finWr2, .completed, .failed].map (fun st => st.code.toNat) = List.range 14 ∧
  [FailCode.none, .invalidFormat, .payloadTooLarge, .connectionError, .subscriptionError, .transportWriteError,
      .ackTimeout, .indexOutOfRange].map (fun c => c.code.toNat) = List.range 8 ∧
  [CmdErr.ok, .badOpcode, .badState, .range, .index, .badAddr].map (fun c => c.code.toNat) = List.range 6

/-- R25: the fields of STATUS, reserved ones 0, BUSY as it is derived from STATE, and the word after reset. -/
def Obligations.StatusWordFields : Prop :=
  ∀ s : State,
    let w := s.statusWord
    w.extractLsb' 0 4 = s.st.code ∧ w.getLsbD 4 = s.busy ∧ w.getLsbD 5 = s.ackLatch ∧ w.getLsbD 6 = s.connUp ∧
    w.extractLsb' 7 2 = s.subOk ∧ w.extractLsb' 9 7 = 0 ∧ w.extractLsb' 16 8 = s.idx ∧ w.extractLsb' 24 8 = 0 ∧
    (s.busy = true ↔ s.st ≠ .idle ∧ s.st ≠ .completed ∧ s.st ≠ .failed) ∧ State.reset.statusWord = 0x00000000#32

/-- R26: the fields of ERROR, reserved ones 0. -/
def Obligations.ErrorWordFields : Prop :=
  ∀ s : State,
    let w := s.errorWord
    w.extractLsb' 0 4 = s.err.code ∧ w.extractLsb' 4 4 = 0 ∧ w.extractLsb' 8 4 = s.failState.code ∧
    w.extractLsb' 12 4 = 0 ∧ w.extractLsb' 16 8 = s.failIdx ∧ w.extractLsb' 24 4 = s.cmdErr.code ∧
    w.extractLsb' 28 4 = 0

/-- R123, R36: `irq` is IE and a terminal STATE, shown in INT_CTRL bit 1 beside IE in bit 0. -/
def Obligations.InterruptLevelIsEnabledTerminalState : Prop :=
  ∀ s : State,
    (s.irq = true ↔ s.ie = true ∧ (s.st = .completed ∨ s.st = .failed)) ∧
    s.intCtrlWord.getLsbD 0 = s.ie ∧ s.intCtrlWord.getLsbD 1 = s.irq ∧ s.intCtrlWord.extractLsb' 2 30 = 0

/-! ### Failing, completing, resetting -/

/-- R116: the failure entry records code, STATE and IDX of the start of the cycle, releases a held connection, and stops
in FAILED; every other write of the cycle stands. -/
def Obligations.FailureEntryRecordsAndReleases : Prop :=
  ∀ (s start : State) (code : FailCode),
    s.raiseFail start code =
      { s with
        err := code, failState := start.st, failIdx := start.idx, st := .failed
        connUp := s.connUp && !start.connUp
        out := { s.out with discReq := s.out.discReq || start.connUp } }

/-- R131: in a cycle with `rst = 1`, whatever the state and the cycle's other inputs, every register takes its reset
value, the host's operation is ignored with `hrdata` = 0, and nothing is emitted. The parameters stay (R6). -/
def Obligations.ResetCycleResetsEverything : Prop :=
  ∀ s : State,
    s.input.rst = true →
      ∃ t, step s = .next t ∧
        t.st = .idle ∧ t.idx = 0 ∧ t.timer = 0 ∧ t.ackLatch = false ∧ t.subOk = 0b00#2 ∧ t.connUp = false ∧
        t.err = .none ∧ t.failState = .idle ∧ t.failIdx = 0 ∧ t.cmdErr = .ok ∧ t.payloadLen = 0 ∧
        t.ackTimeout = 750 ∧ t.settleDelay = 500 ∧ t.cksAddr = 0 ∧ t.cksLen = 0 ∧ t.cksResult = ⟨0, 0, 0⟩ ∧
        t.frameLen = 0 ∧ t.ie = false ∧ t.txCount = 0 ∧
        t.out.connReq = none ∧ t.out.subReq0 = none ∧ t.out.subReq1 = none ∧ t.out.txReq = none ∧
        t.out.discReq = false ∧ t.out.hrdata = some 0 ∧ t.irq = false ∧ t.params = s.params

/-- R132: the value of every piece of state after a reset cycle, and no output event in it. The clauses on PB and FB are the model's form of
"unspecified": free values, drawn anew at each reset (log 5, 6, 7). -/
def Obligations.ResetStateValues : Prop :=
  let r := State.reset
  r.st = .idle ∧ r.idx = 0 ∧ r.timer = 0 ∧ r.ackLatch = false ∧ r.subOk = 0b00#2 ∧ r.connUp = false ∧
  r.statusWord = 0x00000000#32 ∧ r.errorWord = 0x00000000#32 ∧ r.payloadLen = 0 ∧ r.nchunk = 0 ∧
  r.ackTimeout = 0x02EE#16 ∧ r.settleDelay = 0x01F4#16 ∧ r.cksAddr = 0 ∧ r.cksLen = 0 ∧
  r.cksResult.word = 0x00000000#32 ∧ r.frameLen = 0 ∧ r.intCtrlWord = 0x00000000#32 ∧ r.irq = false ∧ r.txCount = 0 ∧
  r.out.connReq = none ∧ r.out.subReq0 = none ∧ r.out.subReq1 = none ∧ r.out.txReq = none ∧ r.out.discReq = false ∧
  (∀ a, r.readPB a = Config.unwrittenPB 0 a) ∧ (∀ k, r.readFB k = Config.unwrittenFB 0 k)

/-! ### The cycle (42_flow_control.md R88) -/

/-- R88: a step runs the decoded instruction (that a cycle's inputs stand in the state is the model's choice, log 1). When the port `hop` decodes to `i` in a cycle without reset, the step is
`exec i` on the state with no output driven yet, then the rule of the STATE the cycle started in, then the end of the
cycle. -/
def Obligations.StepRunsTheDecodedInstruction : Prop :=
  ∀ (s : State) (i : Instr),
    s.input.rst = false → decodeBus s.input.hop = .ok i →
      step s = andThen (exec i s.beginCycle) fun u => andThen (sequencerRule s.st u) fun v => .next v.endCycle

/-- Every step answers a next state: no failure, refusal or wait of the spec stops the machine (R116, R119, R140). -/
def Obligations.EveryStepAnswersNext : Prop :=
  ∀ s : State, ∃ t, step s = .next t

/-- R88, R18: ACK_LATCH after a cycle without reset. The cycle of a data frame sets it to this cycle's notifications, an
executed START or CLEAR to 0, and every other cycle ors this cycle's notifications in. -/
def Obligations.AckLatchUpdate : Prop :=
  ∀ s t : State,
    s.input.rst = false → step s = .next t →
      t.ackLatch =
        if s.st = .xferSend ∧ s.idx.toNat < s.nchunk.toNat ∧ s.nchunk.toNat ≤ 255 then s.input.ntf0 || s.input.ntf1
        else if (s.st = .idle ∧ s.input.hop = .wr 0x00#8 0x00000001#32) ∨
            (s.busy = false ∧ s.input.hop = .wr 0x00#8 0x00000002#32) then false
        else s.ackLatch || s.input.ntf0 || s.input.ntf1

/-- R91: in a stable state the sequencer runs no rule: the cycle is the host's operation and the end of the cycle. -/
def Obligations.StableStatesRunNoRule : Prop :=
  ∀ s u : State,
    s.busy = false → s.input.rst = false → hostPart s = .next u → step s = .next u.endCycle

/-- R51, R60: while busy, the host's operation changes no field but CMD_ERR, CKS_ADDR, CKS_LEN, IE and the port
`hrdata`. -/
def Obligations.BusyHostWritesOnlyUnlockedFields : Prop :=
  ∀ s u : State,
    s.busy = true → hostPart s = .next u →
      u = { s with
            cmdErr := u.cmdErr, cksAddr := u.cksAddr, cksLen := u.cksLen, ie := u.ie, latchAssigned := false
            out := { hrdata := u.out.hrdata } }

/-- R51: PB, PAYLOAD_LEN and both limits are constant for the whole of a session, whatever the host does; so are N and
every chunk. -/
def Obligations.PayloadAndLimitsConstantWhileBusy : Prop :=
  ∀ s t : State,
    s.busy = true → s.input.rst = false → step s = .next t →
      t.pb = s.pb ∧ t.payloadLen = s.payloadLen ∧ t.ackTimeout = s.ackTimeout ∧ t.settleDelay = s.settleDelay ∧
        t.nchunk = s.nchunk ∧ ∀ i, t.chunk i = s.chunk i

/-! ### The rules of the busy states: `u` is the state after the host's operation of the cycle -/

/-- R92: CONNECTING. -/
def Obligations.ConnectingTakesTheConnectAnswer : Prop :=
  ∀ s u : State,
    s.st = .connecting → s.connUp = false → s.input.rst = false → hostPart s = .next u →
      step s =
        .next
          (match s.input.connRsp with
          | .ok =>
            { u with
              connUp := true, st := .subscribing
              out := { u.out with subReq0 := some s.params.subId0, subReq1 := some s.params.subId1 } }
          | .err => { u with err := .connectionError, failState := .connecting, failIdx := s.idx, st := .failed }
          | .none => u).endCycle

/-- R93: SUBSCRIBING. An ERR on either source fails the session, but for a source already answered OK, whose further
answer is extra and ignored (R55, log 29); otherwise the OK answers are recorded, and the state is left when both sources
are up. -/
def Obligations.SubscribingWaitsForBothAnswers : Prop :=
  ∀ s u : State,
    s.st = .subscribing → s.input.rst = false → hostPart s = .next u →
      let b0 := s.subOk.getLsbD 0 || decide (s.input.subRsp0 = .ok)
      let b1 := s.subOk.getLsbD 1 || decide (s.input.subRsp1 = .ok)
      let failed0 := s.input.subRsp0 = .err ∧ s.subOk.getLsbD 0 = false
      let failed1 := s.input.subRsp1 = .err ∧ s.subOk.getLsbD 1 = false
      (failed0 ∨ failed1 → step s = .next (u.raiseFail s .subscriptionError).endCycle) ∧
      (¬(failed0 ∨ failed1) →
        step s =
          .next
            { u with
              subOk := BitVec.ofBool b1 ++ BitVec.ofBool b0
              st := if b0 = true ∧ b1 = true then .connected else .subscribing }.endCycle)

/-- R94: CONNECTED lasts one cycle and issues RESET1. -/
def Obligations.ConnectedIssuesReset1 : Prop :=
  ∀ s u : State,
    s.st = .connected → s.input.rst = false → hostPart s = .next u →
      step s =
        .next
          { u with
            st := .resetWr1, txCount := s.txCount + 1
            out := { u.out with
                     txReq := some ⟨.reset1, s.params.writeHandle, s.params.reset1, s.params.writeRespCtrl⟩ } }.endCycle

/-- R95, R97, R99: the write states RESET_WR1, RESET_WR2 and XFER_WR go on at `tx_done = OK`, fail with
TransportWriteError at ERR, and hold otherwise. -/
def Obligations.WriteStatesWaitForTxDone : Prop :=
  ∀ s u : State,
    s.st = .resetWr1 ∨ s.st = .resetWr2 ∨ s.st = .xferWr → s.input.rst = false → hostPart s = .next u →
      (s.input.txDone = .err → step s = .next (u.raiseFail s .transportWriteError).endCycle) ∧
      (s.input.txDone = .none → step s = .next u.endCycle) ∧
      (s.input.txDone = .ok → s.st = .resetWr1 → step s = .next { u with timer := 0, st := .resetSettle }.endCycle) ∧
      (s.input.txDone = .ok → s.st = .resetWr2 → step s = .next { u with idx := 0, st := .xferSend }.endCycle) ∧
      (s.input.txDone = .ok → s.st = .xferWr → step s = .next { u with timer := 0, st := .xferWait }.endCycle)

/-- R96: RESET_SETTLE counts ticks, and issues RESET2 on the tick that reaches the limit (the first one for a limit of
0). -/
def Obligations.ResetSettleIssuesReset2OnTheLimitTick : Prop :=
  ∀ s u : State,
    s.st = .resetSettle → s.input.rst = false → hostPart s = .next u →
      (s.input.tick = false → step s = .next u.endCycle) ∧
      (s.input.tick = true → s.timer.toNat + 1 < s.settleDelay.toNat →
        step s = .next { u with timer := s.timer + 1 }.endCycle) ∧
      (s.input.tick = true → s.settleDelay.toNat ≤ s.timer.toNat + 1 →
        step s =
          .next
            { u with
              timer := s.timer + 1, st := .resetWr2, txCount := s.txCount + 1
              out := { u.out with
                       txReq := some ⟨.reset2, s.params.writeHandle, s.params.reset2, s.params.writeRespCtrl⟩ } }.endCycle)

/-- R98: XFER_SEND lasts one cycle: it encodes packet IDX into FB, clears the latch down to this cycle's notifications and
issues the frame; an index out of range fails with code 7. -/
def Obligations.XferSendIssuesThePacket : Prop :=
  ∀ s u : State,
    s.st = .xferSend → s.input.rst = false → hostPart s = .next u →
      let F := dataFrame s.params s.idx s.nchunk (s.chunk s.idx.toNat)
      (s.nchunk.toNat ≤ 255 → s.idx.toNat < s.nchunk.toNat →
        ∃ fb', step s =
            .next
              { u with
                fb := fb', frameLen := 244
                cksResult := frameChecksum s.params s.idx s.nchunk (s.chunk s.idx.toNat)
                ackLatch := s.input.ntf0 || s.input.ntf1, latchAssigned := true, txCount := s.txCount + 1, st := .xferWr
                out := { u.out with
                         txReq := some ⟨.data, s.params.writeHandle, F, s.params.writeRespData⟩ } }.endCycle ∧
          ∀ k, Memory.read fb' k = F[k]?) ∧
      (255 < s.nchunk.toNat ∨ s.nchunk.toNat ≤ s.idx.toNat →
        step s = .next (u.raiseFail s .indexOutOfRange).endCycle)

/-- R100: XFER_WAIT. An acknowledgment, latched or of this cycle, moves to the next packet or to the first finalize
frame, and wins over a tick; without one a tick counts, and the tick that reaches the limit fails with AckTimeout. -/
def Obligations.XferWaitTakesAckThenTick : Prop :=
  ∀ s u : State,
    s.st = .xferWait → s.input.rst = false → hostPart s = .next u →
      let acked := s.ackLatch || s.input.ntf0 || s.input.ntf1
      (acked = true → s.idx.toNat + 1 = s.nchunk.toNat →
        step s =
          .next
            { u with
              st := .finWr1, txCount := s.txCount + 1
              out := { u.out with
                       txReq :=
                         some ⟨.finalize, s.params.writeHandle, s.params.finalize, s.params.writeRespCtrl⟩ } }.endCycle) ∧
      (acked = true → s.idx.toNat + 1 ≠ s.nchunk.toNat →
        step s = .next { u with idx := s.idx + 1, st := .xferSend }.endCycle) ∧
      (acked = false → s.input.tick = false → step s = .next u.endCycle) ∧
      (acked = false → s.input.tick = true → s.timer.toNat + 1 < s.ackTimeout.toNat →
        step s = .next { u with timer := s.timer + 1 }.endCycle) ∧
      (acked = false → s.input.tick = true → s.ackTimeout.toNat ≤ s.timer.toNat + 1 →
        step s = .next ({ u with timer := s.timer + 1 }.raiseFail s .ackTimeout).endCycle)

/-- R101, R102, R117: the finalize frame is issued a second time when the first write is done, and the session completes,
releasing the connection, when the second is; an ERR fails with TransportWriteError. -/
def Obligations.FinalizeTwiceThenComplete : Prop :=
  ∀ s u : State,
    s.st = .finWr1 ∨ s.st = .finWr2 → s.input.rst = false → hostPart s = .next u →
      (s.input.txDone = .err → step s = .next (u.raiseFail s .transportWriteError).endCycle) ∧
      (s.input.txDone = .none → step s = .next u.endCycle) ∧
      (s.input.txDone = .ok → s.st = .finWr1 →
        step s =
          .next
            { u with
              st := .finWr2, txCount := s.txCount + 1
              out := { u.out with
                       txReq :=
                         some ⟨.finalize, s.params.writeHandle, s.params.finalize, s.params.writeRespCtrl⟩ } }.endCycle) ∧
      (s.input.txDone = .ok → s.st = .finWr2 →
        step s = .next { u with st := .completed, connUp := false, out := { u.out with discReq := true } }.endCycle)

/-! ### Rules over the whole machine -/

/-- R103: an input no rule of the current state reads has no effect: two states that differ only in such inputs of this
cycle step alike. -/
def Obligations.UnreadInputsHaveNoEffect : Prop :=
  ∀ (s : State) (c : CycleIn) (rest : List CycleIn),
    step { s with inputs := c :: rest } = step { s with inputs := relevantInputs s.st c :: rest }

/-- R15, R107: outside reset, STATE only moves along the session's path or to FAILED; it enters a session only from IDLE
and leaves COMPLETED and FAILED only to IDLE. -/
def Obligations.StateFollowsTheSessionPath : Prop :=
  ∀ s t : State, SessionInv s → s.input.rst = false → step s = .next t → mayFollow s.st t.st = true

/-- R121, R91: COMPLETED and FAILED are left only by a reset or by a CLEAR command, and IDLE only by START. -/
def Obligations.StableStatesLeftOnlyByCommand : Prop :=
  ∀ s t : State,
    s.busy = false → step s = .next t → t.st ≠ s.st →
      s.input.rst = true ∨
      (s.st = .idle ∧ s.input.hop = .wr 0x00#8 0x00000001#32) ∨
      (s.st ≠ .idle ∧ s.input.hop = .wr 0x00#8 0x00000002#32)

/-- R119: reads and idle cycles never touch CMD_ERR. -/
def Obligations.ReadsNeverTouchTheCommandStatus : Prop :=
  ∀ s t : State,
    s.input.rst = false → step s = .next t → (∀ off d, s.input.hop ≠ .wr off d) → (∀ a b, s.input.hop ≠ .wrb a b) →
      t.cmdErr = s.cmdErr

/-- R54, R94 to R101: a `tx_req` is emitted exactly in the cycles whose rule issues a frame; then none is outstanding
unless its `tx_done = OK` arrives in that cycle, and one is outstanding afterwards. -/
def Obligations.AtMostOneFrameOutstanding : Prop :=
  ∀ s t : State,
    s.input.rst = false → step s = .next t →
      (t.out.txReq.isSome = true ↔ issuesFrame s = true) ∧
      (t.out.txReq.isSome = true → outstandingTx t.st = true ∧ (outstandingTx s.st = false ∨ s.input.txDone = .ok))

/-- R118: `disc_req` is emitted exactly in the cycle the connection is given up, and then the session has ended. -/
def Obligations.DisconnectExactlyWhenReleased : Prop :=
  ∀ s t : State,
    SessionInv s → s.input.rst = false → step s = .next t →
      (t.out.discReq = true ↔ s.connUp = true ∧ t.connUp = false) ∧ (t.out.discReq = true → ended t = true)

/-- R106: failure code 7 is never raised by a session. -/
def Obligations.IndexOutOfRangeIsNeverRaised : Prop :=
  ∀ s t : State, SessionInv s → s.err ≠ .indexOutOfRange → step s = .next t → t.err ≠ .indexOutOfRange

/-- R6: the parameters are fixed for the life of the block (that they stand in the state is the model's choice, log 3). -/
def Obligations.ParametersNeverChange : Prop :=
  ∀ s t : State, step s = .next t → t.params = s.params

/-! ### Invariants -/

/-- Every step keeps PB and FB in canonical form (R40; log 24). -/
def Obligations.StepKeepsMemoryCanonical : Prop :=
  ∀ s t : State, MemoryInv s → step s = .next t → MemoryInv t

/-- Every step keeps the session invariant (R16, R17, R20, R37, R106, R107, R115, R118). -/
def Obligations.StepKeepsSessionInvariant : Prop :=
  ∀ s t : State, SessionInv s → step s = .next t → SessionInv t

/-- Every step keeps FRAME_LEN at 0 or 244, and at 244 only with FB full (R35, R86). -/
def Obligations.StepKeepsFrameBufferValid : Prop :=
  ∀ s t : State, FrameInv s → step s = .next t → FrameInv t

/-- The three invariants hold after reset. -/
def Obligations.ResetMeetsTheInvariants : Prop :=
  MemoryInv State.reset ∧ SessionInv State.reset ∧ FrameInv State.reset ∧ State.reset.params.wf = true

/-! ### Runs -/

/-- R108: when no notification arrives after the write of a packet is done, the session waits until the limit-th tick
(the first if the limit is 0), whatever the host does, and then reaches FAILED with AckTimeout and the packet's index,
having issued no further frame. -/
def Obligations.AckTimeoutOnExactlyTheLimitTick : Prop :=
  ∀ (s : State) (quiet rest : List CycleIn) (last : CycleIn),
    s.st = .xferWait → s.timer = 0 → s.ackLatch = false → s.inputs = quiet ++ last :: rest →
    (∀ c ∈ quiet, silent c = true) → silent last = true → last.tick = true →
    tickCount quiet + 1 = max s.ackTimeout.toNat 1 →
      (∀ j, j ≤ quiet.length → ∃ u, Sys2Proof.core.run j s = .next u ∧ u.st = .xferWait) ∧
      ∃ t, Sys2Proof.core.run (quiet.length + 1) s = .next t ∧ t.st = .failed ∧ t.err = .ackTimeout ∧
        t.failState = .xferWait ∧ t.failIdx = s.idx ∧ t.txCount = s.txCount ∧ t.inputs = rest ∧
        framesSent (quiet.length + 1) s = []

/-- R107, R142, R143: from IDLE with a payload of 1 to 49 980 bytes, the shortest session takes `8 + max(d, 1) + 3N` cycles to
COMPLETED, with ERR 0, the connection released and TX_COUNT = N + 4, and the frames it issues are RESET1, RESET2, the N
data frames of the payload in order, and FINALIZE twice; the run of those cycles has its end there. -/
def Obligations.FastSessionUploadsThePayload : Prop :=
  ∀ (s : State) (rest : List CycleIn),
    let L := s.payloadLen.toNat
    let N := (L + 195) / 196
    let K := 8 + max s.settleDelay.toNat 1 + 3 * N
    s.st = .idle → 1 ≤ L → L ≤ 49980 → s.inputs = fastSession s.settleDelay.toNat N ++ rest →
      (∃ t, Sys2Proof.core.run K s = .next t ∧ t.st = .completed ∧ t.err = .none ∧ t.connUp = false ∧
        t.txCount.toNat = N + 4 ∧ t.inputs = rest) ∧
      framesSent K s = sessionFrames s ∧ endCycleOf K s = some K
end

