-- ==== Sys2Proof/Laws/Checksum.lean ====
section
/-! SUPPORT. Small facts about the byte sum and the accumulator of the checksum engine, and the lengths of a frame's
parts. -/

namespace Sys2Proof

@[simp] theorem byteSum_nil : byteSum [] = 0 := rfl

@[simp] theorem byteSum_cons (b : Byte) (X : List Byte) : byteSum (b :: X) = b.toNat + byteSum X := rfl

theorem byteSum_append (X Y : List Byte) : byteSum (X ++ Y) = byteSum X + byteSum Y := by
  induction X with
  | nil => simp
  | cons b X ih => simp [ih, Nat.add_assoc]

/-- A byte is at most 255. -/
theorem byteSum_le (X : List Byte) : byteSum X ≤ 255 * X.length := by
  induction X with
  | nil => simp
  | cons b X ih =>
    have := b.isLt
    simp only [byteSum_cons, List.length_cons]
    omega

/-- The accumulator holds the sum modulo 2^16 (R77). -/
theorem accumulate_toNat (acc : Half) (X : List Byte) :
    (accumulate acc X).toNat = (acc.toNat + byteSum X) % 65536 := by
  induction X generalizing acc with
  | nil => have := acc.isLt; simp only [accumulate, byteSum_nil]; omega
  | cons b X ih =>
    have hb := b.isLt
    simp only [accumulate, ih, BitVec.toNat_add, BitVec.toNat_setWidth, byteSum_cons]
    omega

@[simp] theorem indexField_length (p : Params) (i : Byte) : (indexField p i).length = 3 := rfl

@[simp] theorem headerBytes_length (p : Params) (i : Byte) (n : BitVec 9) : (headerBytes p i n).length = 46 := by
  simp [headerBytes]

@[simp] theorem frameBody_length (p : Params) (i : Byte) (n : BitVec 9) (c : Vector Byte 196) :
    (frameBody p i n c).length = 242 := by
  simp [frameBody]

@[simp] theorem dataFrame_length (p : Params) (i : Byte) (n : BitVec 9) (c : Vector Byte 196) :
    (dataFrame p i n c).length = 244 := by
  simp [dataFrame]

end Sys2Proof
end

