-- ==== Sys2Proof/Laws/Frame.lean ====
section
/-! SUPPORT. A data frame as its segments in order, and how a segment is found again in it. -/

namespace Sys2Proof

/-- A byte of a segment that starts at offset `o`. -/
theorem segment_get (pre seg post : List Byte) (o k : Nat) (ho : pre.length = o) (hk : k < seg.length) :
    (pre ++ (seg ++ post))[o + k]? = seg[k]? := by
  subst ho
  rw [List.getElem?_append_right (by omega), List.getElem?_append_left (by omega)]
  simp

/-- A segment that starts at offset `o`, cut out. -/
theorem segment_slice (pre seg post : List Byte) (o n : Nat) (ho : pre.length = o) (hn : seg.length = n) :
    sliceBytes (pre ++ (seg ++ post)) o n = seg := by
  subst ho; subst hn
  simp [sliceBytes]

/-- R61: a data frame is its twelve fields in order, the index field standing in it twice. -/
theorem dataFrame_segments (p : Params) (i : Byte) (n : BitVec 9) (chunk : Vector Byte 196) :
    dataFrame p i n chunk =
      p.frameStart.toList ++ ([p.lenField] ++ (indexField p i ++ (p.hdrA.toList ++ ([n.setWidth 8] ++ (indexField p i ++
        (p.hdrB.toList ++ (p.hdrC.toList ++ (chunk.toList ++
          [(frameChecksum p i n chunk).ck, (frameChecksum p i n chunk).tb])))))))) := by
  simp [dataFrame, frameBody, headerBytes]

theorem dataFrame_take_body (p : Params) (i : Byte) (n : BitVec 9) (chunk : Vector Byte 196) :
    (dataFrame p i n chunk).take 242 = frameBody p i n chunk := by
  simp only [dataFrame]; rw [List.take_append]; simp

theorem dataFrame_take_checked (p : Params) (i : Byte) (n : BitVec 9) (chunk : Vector Byte 196) :
    (dataFrame p i n chunk).take 243 = frameBody p i n chunk ++ [(frameChecksum p i n chunk).ck] := by
  simp only [dataFrame]; rw [List.take_append]; simp

/-- The command of a word, as the opcode map's rows tried in order (R58). -/
theorem decodeCommand_eq (w : Word) :
    decodeCommand w =
      if w = 0#32 then some .nop
      else if w = 1#32 then some .start
      else if w = 2#32 then some .clear
      else if w &&& 0xFFFF00FF#32 = 3#32 then some (.encode (commandArg w))
      else if w = 4#32 then some .cksum
      else none := by
  have hone : w &&& 0xFFFFFFFF#32 = w := by
    rw [show (0xFFFFFFFF#32) = BitVec.allOnes 32 by decide, BitVec.and_allOnes]
  simp only [decodeCommand, commandRows, CommandRow.selects, List.find?, hone]
  by_cases h0 : w = 0#32
  · subst h0; rfl
  by_cases h1 : w = 1#32
  · subst h1; rfl
  by_cases h2 : w = 2#32
  · subst h2; rfl
  by_cases h3 : w &&& 0xFFFF00FF#32 = 3#32
  · simp [beq_false_of_ne h0, beq_false_of_ne h1, beq_false_of_ne h2, h0, h1, h2, h3]
  by_cases h4 : w = 4#32
  · subst h4; rfl
  simp [beq_false_of_ne h0, beq_false_of_ne h1, beq_false_of_ne h2, beq_false_of_ne h3, beq_false_of_ne h4, h0, h1, h2,
    h3, h4]

end Sys2Proof
end

