-- ==== Sys2Proof/Laws/Memory.lean ====
section
/-! SUPPORT. What reading, writing and filling a byte memory do, and that each keeps the canonical form. -/

namespace Sys2Proof.Machine

theorem Memory.read_write_same (m : Memory) (a : Nat) (v : Byte) : Memory.read (Memory.write m a v) a = some v := by
  induction m with
  | nil => simp [Memory.write, Memory.read]
  | cons c m ih =>
    obtain ⟨b, w⟩ := c
    by_cases h1 : a < b
    · simp [Memory.write, Memory.read, h1]
    · by_cases h2 : a = b
      · simp [Memory.write, Memory.read, h2]
      · simp [Memory.write, Memory.read, h1, h2, ih]

theorem Memory.read_write_other (m : Memory) (a : Nat) (v : Byte) (x : Nat) (hx : x ≠ a) :
    Memory.read (Memory.write m a v) x = Memory.read m x := by
  induction m with
  | nil => simp [Memory.write, Memory.read, hx]
  | cons c m ih =>
    obtain ⟨b, w⟩ := c
    by_cases h1 : a < b
    · simp [Memory.write, Memory.read, h1, hx]
    · by_cases h2 : a = b
      · subst h2; simp [Memory.write, Memory.read, hx]
      · simp [Memory.write, Memory.read, h1, h2, ih]

theorem Memory.read_write (m : Memory) (a : Nat) (v : Byte) (x : Nat) :
    Memory.read (Memory.write m a v) x = if x = a then some v else Memory.read m x := by
  by_cases h : x = a
  · subst h; simp [Memory.read_write_same]
  · simp [h, Memory.read_write_other m a v x h]

theorem Memory.wfFrom_write (m : Memory) (lo size a : Nat) (v : Byte) (h : Memory.wfFrom lo size m = true) (hlo : lo ≤ a)
    (ha : a < size) : Memory.wfFrom lo size (Memory.write m a v) = true := by
  induction m generalizing lo with
  | nil => simp [Memory.write, Memory.wfFrom, hlo, ha]
  | cons c m ih =>
    obtain ⟨b, w⟩ := c
    simp only [Memory.wfFrom, Bool.and_eq_true, decide_eq_true_eq] at h
    obtain ⟨⟨hb, hbs⟩, hm⟩ := h
    by_cases h1 : a < b
    · simp [Memory.write, Memory.wfFrom, h1, hlo, ha, hbs, hm]
    · by_cases h2 : a = b
      · subst h2; simp [Memory.write, Memory.wfFrom, hlo, ha, hm]
      · have h3 : b + 1 ≤ a := by omega
        simp [Memory.write, Memory.wfFrom, h1, h2, hb, hbs, ih (b + 1) hm h3]

/-- A write inside the memory keeps the canonical form. -/
theorem Memory.wf_write (size : Nat) (m : Memory) (a : Nat) (v : Byte) (h : Memory.wf size m = true) (ha : a < size) :
    Memory.wf size (Memory.write m a v) = true :=
  Memory.wfFrom_write m 0 size a v h (Nat.zero_le a) ha

theorem Memory.wfFrom_ofBytes (bytes : List Byte) (at0 size : Nat) (h : at0 + bytes.length ≤ size) :
    Memory.wfFrom at0 size (Memory.ofBytes at0 bytes) = true := by
  induction bytes generalizing at0 with
  | nil => rfl
  | cons b bytes ih =>
    simp only [List.length_cons] at h
    simp [Memory.ofBytes, Memory.wfFrom, ih (at0 + 1) (by omega)]
    omega

/-- A memory filled from address 0 is canonical. -/
theorem Memory.wf_ofBytes (size : Nat) (bytes : List Byte) (h : bytes.length ≤ size) :
    Memory.wf size (Memory.ofBytes 0 bytes) = true :=
  Memory.wfFrom_ofBytes bytes 0 size (by omega)

theorem Memory.read_ofBytes_from (bytes : List Byte) (at0 k : Nat) :
    Memory.read (Memory.ofBytes at0 bytes) (at0 + k) = bytes[k]? := by
  induction bytes generalizing at0 k with
  | nil => simp [Memory.ofBytes, Memory.read]
  | cons b bytes ih =>
    cases k with
    | zero => simp [Memory.ofBytes, Memory.read]
    | succ k =>
      have h := ih (at0 + 1) k
      rw [show at0 + 1 + k = at0 + (k + 1) by omega] at h
      simp [Memory.ofBytes, Memory.read, h]

/-- A memory filled from address 0 reads as the bytes. -/
theorem Memory.read_ofBytes (bytes : List Byte) (k : Nat) : Memory.read (Memory.ofBytes 0 bytes) k = bytes[k]? := by
  simpa using Memory.read_ofBytes_from bytes 0 k

theorem Memory.wf_nil (size : Nat) : Memory.wf size [] = true := rfl

end Sys2Proof.Machine
end

