-- ==== Sys2Proof/Laws/State.lean ====
section
/-! SUPPORT. One lemma per field of State per named update, true by rfl: what the update writes there, or that it leaves
the field alone. Later proofs cite these and unfold no record update. -/

namespace Sys2Proof.Machine

variable (s : State)

/-! ### State.writePB -/

@[simp] theorem State.writePB_st (a : Nat) (b : Byte) : (s.writePB a b).st = s.st := rfl
@[simp] theorem State.writePB_idx (a : Nat) (b : Byte) : (s.writePB a b).idx = s.idx := rfl
@[simp] theorem State.writePB_timer (a : Nat) (b : Byte) : (s.writePB a b).timer = s.timer := rfl
@[simp] theorem State.writePB_ackLatch (a : Nat) (b : Byte) : (s.writePB a b).ackLatch = s.ackLatch := rfl
@[simp] theorem State.writePB_subOk (a : Nat) (b : Byte) : (s.writePB a b).subOk = s.subOk := rfl
@[simp] theorem State.writePB_connUp (a : Nat) (b : Byte) : (s.writePB a b).connUp = s.connUp := rfl
@[simp] theorem State.writePB_err (a : Nat) (b : Byte) : (s.writePB a b).err = s.err := rfl
@[simp] theorem State.writePB_failState (a : Nat) (b : Byte) : (s.writePB a b).failState = s.failState := rfl
@[simp] theorem State.writePB_failIdx (a : Nat) (b : Byte) : (s.writePB a b).failIdx = s.failIdx := rfl
@[simp] theorem State.writePB_cmdErr (a : Nat) (b : Byte) : (s.writePB a b).cmdErr = s.cmdErr := rfl
@[simp] theorem State.writePB_payloadLen (a : Nat) (b : Byte) : (s.writePB a b).payloadLen = s.payloadLen := rfl
@[simp] theorem State.writePB_ackTimeout (a : Nat) (b : Byte) : (s.writePB a b).ackTimeout = s.ackTimeout := rfl
@[simp] theorem State.writePB_settleDelay (a : Nat) (b : Byte) : (s.writePB a b).settleDelay = s.settleDelay := rfl
@[simp] theorem State.writePB_cksAddr (a : Nat) (b : Byte) : (s.writePB a b).cksAddr = s.cksAddr := rfl
@[simp] theorem State.writePB_cksLen (a : Nat) (b : Byte) : (s.writePB a b).cksLen = s.cksLen := rfl
@[simp] theorem State.writePB_cksResult (a : Nat) (b : Byte) : (s.writePB a b).cksResult = s.cksResult := rfl
@[simp] theorem State.writePB_frameLen (a : Nat) (b : Byte) : (s.writePB a b).frameLen = s.frameLen := rfl
@[simp] theorem State.writePB_ie (a : Nat) (b : Byte) : (s.writePB a b).ie = s.ie := rfl
@[simp] theorem State.writePB_txCount (a : Nat) (b : Byte) : (s.writePB a b).txCount = s.txCount := rfl
@[simp] theorem State.writePB_pb (a : Nat) (b : Byte) : (s.writePB a b).pb = Memory.write s.pb a b := rfl
@[simp] theorem State.writePB_fb (a : Nat) (b : Byte) : (s.writePB a b).fb = s.fb := rfl
@[simp] theorem State.writePB_out (a : Nat) (b : Byte) : (s.writePB a b).out = s.out := rfl
@[simp] theorem State.writePB_inputs (a : Nat) (b : Byte) : (s.writePB a b).inputs = s.inputs := rfl
@[simp] theorem State.writePB_params (a : Nat) (b : Byte) : (s.writePB a b).params = s.params := rfl
@[simp] theorem State.writePB_epoch (a : Nat) (b : Byte) : (s.writePB a b).epoch = s.epoch := rfl
@[simp] theorem State.writePB_latchAssigned (a : Nat) (b : Byte) :
    (s.writePB a b).latchAssigned = s.latchAssigned := rfl

@[simp] theorem State.writePB_input (a : Nat) (b : Byte) : (s.writePB a b).input = s.input := rfl
@[simp] theorem State.writePB_busy (a : Nat) (b : Byte) : (s.writePB a b).busy = s.busy := rfl
@[simp] theorem State.writePB_nchunk (a : Nat) (b : Byte) : (s.writePB a b).nchunk = s.nchunk := rfl
@[simp] theorem State.writePB_readFB (a : Nat) (b : Byte) (x : Nat) : (s.writePB a b).readFB x = s.readFB x := rfl

/-! ### State.storeFrame -/

@[simp] theorem State.storeFrame_st (F : List Byte) (r : CksResult) : (s.storeFrame F r).st = s.st := rfl
@[simp] theorem State.storeFrame_idx (F : List Byte) (r : CksResult) : (s.storeFrame F r).idx = s.idx := rfl
@[simp] theorem State.storeFrame_timer (F : List Byte) (r : CksResult) : (s.storeFrame F r).timer = s.timer := rfl
@[simp] theorem State.storeFrame_ackLatch (F : List Byte) (r : CksResult) :
    (s.storeFrame F r).ackLatch = s.ackLatch := rfl
@[simp] theorem State.storeFrame_subOk (F : List Byte) (r : CksResult) : (s.storeFrame F r).subOk = s.subOk := rfl
@[simp] theorem State.storeFrame_connUp (F : List Byte) (r : CksResult) : (s.storeFrame F r).connUp = s.connUp := rfl
@[simp] theorem State.storeFrame_err (F : List Byte) (r : CksResult) : (s.storeFrame F r).err = s.err := rfl
@[simp] theorem State.storeFrame_failState (F : List Byte) (r : CksResult) :
    (s.storeFrame F r).failState = s.failState := rfl
@[simp] theorem State.storeFrame_failIdx (F : List Byte) (r : CksResult) : (s.storeFrame F r).failIdx = s.failIdx := rfl
@[simp] theorem State.storeFrame_cmdErr (F : List Byte) (r : CksResult) : (s.storeFrame F r).cmdErr = s.cmdErr := rfl
@[simp] theorem State.storeFrame_payloadLen (F : List Byte) (r : CksResult) :
    (s.storeFrame F r).payloadLen = s.payloadLen := rfl
@[simp] theorem State.storeFrame_ackTimeout (F : List Byte) (r : CksResult) :
    (s.storeFrame F r).ackTimeout = s.ackTimeout := rfl
@[simp] theorem State.storeFrame_settleDelay (F : List Byte) (r : CksResult) :
    (s.storeFrame F r).settleDelay = s.settleDelay := rfl
@[simp] theorem State.storeFrame_cksAddr (F : List Byte) (r : CksResult) : (s.storeFrame F r).cksAddr = s.cksAddr := rfl
@[simp] theorem State.storeFrame_cksLen (F : List Byte) (r : CksResult) : (s.storeFrame F r).cksLen = s.cksLen := rfl
@[simp] theorem State.storeFrame_cksResult (F : List Byte) (r : CksResult) : (s.storeFrame F r).cksResult = r := rfl
@[simp] theorem State.storeFrame_frameLen (F : List Byte) (r : CksResult) : (s.storeFrame F r).frameLen = 244 := rfl
@[simp] theorem State.storeFrame_ie (F : List Byte) (r : CksResult) : (s.storeFrame F r).ie = s.ie := rfl
@[simp] theorem State.storeFrame_txCount (F : List Byte) (r : CksResult) : (s.storeFrame F r).txCount = s.txCount := rfl
@[simp] theorem State.storeFrame_pb (F : List Byte) (r : CksResult) : (s.storeFrame F r).pb = s.pb := rfl
@[simp] theorem State.storeFrame_fb (F : List Byte) (r : CksResult) : (s.storeFrame F r).fb = Memory.ofBytes 0 F := rfl
@[simp] theorem State.storeFrame_out (F : List Byte) (r : CksResult) : (s.storeFrame F r).out = s.out := rfl
@[simp] theorem State.storeFrame_inputs (F : List Byte) (r : CksResult) : (s.storeFrame F r).inputs = s.inputs := rfl
@[simp] theorem State.storeFrame_params (F : List Byte) (r : CksResult) : (s.storeFrame F r).params = s.params := rfl
@[simp] theorem State.storeFrame_epoch (F : List Byte) (r : CksResult) : (s.storeFrame F r).epoch = s.epoch := rfl
@[simp] theorem State.storeFrame_latchAssigned (F : List Byte) (r : CksResult) :
    (s.storeFrame F r).latchAssigned = s.latchAssigned := rfl

@[simp] theorem State.storeFrame_input (F : List Byte) (r : CksResult) : (s.storeFrame F r).input = s.input := rfl
@[simp] theorem State.storeFrame_busy (F : List Byte) (r : CksResult) : (s.storeFrame F r).busy = s.busy := rfl
@[simp] theorem State.storeFrame_nchunk (F : List Byte) (r : CksResult) : (s.storeFrame F r).nchunk = s.nchunk := rfl
@[simp] theorem State.storeFrame_readPB (F : List Byte) (r : CksResult) (x : Nat) :
    (s.storeFrame F r).readPB x = s.readPB x := rfl
@[simp] theorem State.storeFrame_chunk (F : List Byte) (r : CksResult) (x : Nat) :
    (s.storeFrame F r).chunk x = s.chunk x := rfl

/-! ### State.setCmdErr -/

@[simp] theorem State.setCmdErr_st (c : CmdErr) : (s.setCmdErr c).st = s.st := rfl
@[simp] theorem State.setCmdErr_idx (c : CmdErr) : (s.setCmdErr c).idx = s.idx := rfl
@[simp] theorem State.setCmdErr_timer (c : CmdErr) : (s.setCmdErr c).timer = s.timer := rfl
@[simp] theorem State.setCmdErr_ackLatch (c : CmdErr) : (s.setCmdErr c).ackLatch = s.ackLatch := rfl
@[simp] theorem State.setCmdErr_subOk (c : CmdErr) : (s.setCmdErr c).subOk = s.subOk := rfl
@[simp] theorem State.setCmdErr_connUp (c : CmdErr) : (s.setCmdErr c).connUp = s.connUp := rfl
@[simp] theorem State.setCmdErr_err (c : CmdErr) : (s.setCmdErr c).err = s.err := rfl
@[simp] theorem State.setCmdErr_failState (c : CmdErr) : (s.setCmdErr c).failState = s.failState := rfl
@[simp] theorem State.setCmdErr_failIdx (c : CmdErr) : (s.setCmdErr c).failIdx = s.failIdx := rfl
@[simp] theorem State.setCmdErr_cmdErr (c : CmdErr) : (s.setCmdErr c).cmdErr = c := rfl
@[simp] theorem State.setCmdErr_payloadLen (c : CmdErr) : (s.setCmdErr c).payloadLen = s.payloadLen := rfl
@[simp] theorem State.setCmdErr_ackTimeout (c : CmdErr) : (s.setCmdErr c).ackTimeout = s.ackTimeout := rfl
@[simp] theorem State.setCmdErr_settleDelay (c : CmdErr) : (s.setCmdErr c).settleDelay = s.settleDelay := rfl
@[simp] theorem State.setCmdErr_cksAddr (c : CmdErr) : (s.setCmdErr c).cksAddr = s.cksAddr := rfl
@[simp] theorem State.setCmdErr_cksLen (c : CmdErr) : (s.setCmdErr c).cksLen = s.cksLen := rfl
@[simp] theorem State.setCmdErr_cksResult (c : CmdErr) : (s.setCmdErr c).cksResult = s.cksResult := rfl
@[simp] theorem State.setCmdErr_frameLen (c : CmdErr) : (s.setCmdErr c).frameLen = s.frameLen := rfl
@[simp] theorem State.setCmdErr_ie (c : CmdErr) : (s.setCmdErr c).ie = s.ie := rfl
@[simp] theorem State.setCmdErr_txCount (c : CmdErr) : (s.setCmdErr c).txCount = s.txCount := rfl
@[simp] theorem State.setCmdErr_pb (c : CmdErr) : (s.setCmdErr c).pb = s.pb := rfl
@[simp] theorem State.setCmdErr_fb (c : CmdErr) : (s.setCmdErr c).fb = s.fb := rfl
@[simp] theorem State.setCmdErr_out (c : CmdErr) : (s.setCmdErr c).out = s.out := rfl
@[simp] theorem State.setCmdErr_inputs (c : CmdErr) : (s.setCmdErr c).inputs = s.inputs := rfl
@[simp] theorem State.setCmdErr_params (c : CmdErr) : (s.setCmdErr c).params = s.params := rfl
@[simp] theorem State.setCmdErr_epoch (c : CmdErr) : (s.setCmdErr c).epoch = s.epoch := rfl
@[simp] theorem State.setCmdErr_latchAssigned (c : CmdErr) : (s.setCmdErr c).latchAssigned = s.latchAssigned := rfl

@[simp] theorem State.setCmdErr_input (c : CmdErr) : (s.setCmdErr c).input = s.input := rfl
@[simp] theorem State.setCmdErr_busy (c : CmdErr) : (s.setCmdErr c).busy = s.busy := rfl
@[simp] theorem State.setCmdErr_nchunk (c : CmdErr) : (s.setCmdErr c).nchunk = s.nchunk := rfl
@[simp] theorem State.setCmdErr_readPB (c : CmdErr) (x : Nat) : (s.setCmdErr c).readPB x = s.readPB x := rfl
@[simp] theorem State.setCmdErr_readFB (c : CmdErr) (x : Nat) : (s.setCmdErr c).readFB x = s.readFB x := rfl
@[simp] theorem State.setCmdErr_chunk (c : CmdErr) (x : Nat) : (s.setCmdErr c).chunk x = s.chunk x := rfl

/-! ### State.moveTo -/

@[simp] theorem State.moveTo_st (st : SeqState) : (s.moveTo st).st = st := rfl
@[simp] theorem State.moveTo_idx (st : SeqState) : (s.moveTo st).idx = s.idx := rfl
@[simp] theorem State.moveTo_timer (st : SeqState) : (s.moveTo st).timer = s.timer := rfl
@[simp] theorem State.moveTo_ackLatch (st : SeqState) : (s.moveTo st).ackLatch = s.ackLatch := rfl
@[simp] theorem State.moveTo_subOk (st : SeqState) : (s.moveTo st).subOk = s.subOk := rfl
@[simp] theorem State.moveTo_connUp (st : SeqState) : (s.moveTo st).connUp = s.connUp := rfl
@[simp] theorem State.moveTo_err (st : SeqState) : (s.moveTo st).err = s.err := rfl
@[simp] theorem State.moveTo_failState (st : SeqState) : (s.moveTo st).failState = s.failState := rfl
@[simp] theorem State.moveTo_failIdx (st : SeqState) : (s.moveTo st).failIdx = s.failIdx := rfl
@[simp] theorem State.moveTo_cmdErr (st : SeqState) : (s.moveTo st).cmdErr = s.cmdErr := rfl
@[simp] theorem State.moveTo_payloadLen (st : SeqState) : (s.moveTo st).payloadLen = s.payloadLen := rfl
@[simp] theorem State.moveTo_ackTimeout (st : SeqState) : (s.moveTo st).ackTimeout = s.ackTimeout := rfl
@[simp] theorem State.moveTo_settleDelay (st : SeqState) : (s.moveTo st).settleDelay = s.settleDelay := rfl
@[simp] theorem State.moveTo_cksAddr (st : SeqState) : (s.moveTo st).cksAddr = s.cksAddr := rfl
@[simp] theorem State.moveTo_cksLen (st : SeqState) : (s.moveTo st).cksLen = s.cksLen := rfl
@[simp] theorem State.moveTo_cksResult (st : SeqState) : (s.moveTo st).cksResult = s.cksResult := rfl
@[simp] theorem State.moveTo_frameLen (st : SeqState) : (s.moveTo st).frameLen = s.frameLen := rfl
@[simp] theorem State.moveTo_ie (st : SeqState) : (s.moveTo st).ie = s.ie := rfl
@[simp] theorem State.moveTo_txCount (st : SeqState) : (s.moveTo st).txCount = s.txCount := rfl
@[simp] theorem State.moveTo_pb (st : SeqState) : (s.moveTo st).pb = s.pb := rfl
@[simp] theorem State.moveTo_fb (st : SeqState) : (s.moveTo st).fb = s.fb := rfl
@[simp] theorem State.moveTo_out (st : SeqState) : (s.moveTo st).out = s.out := rfl
@[simp] theorem State.moveTo_inputs (st : SeqState) : (s.moveTo st).inputs = s.inputs := rfl
@[simp] theorem State.moveTo_params (st : SeqState) : (s.moveTo st).params = s.params := rfl
@[simp] theorem State.moveTo_epoch (st : SeqState) : (s.moveTo st).epoch = s.epoch := rfl
@[simp] theorem State.moveTo_latchAssigned (st : SeqState) : (s.moveTo st).latchAssigned = s.latchAssigned := rfl

@[simp] theorem State.moveTo_input (st : SeqState) : (s.moveTo st).input = s.input := rfl
@[simp] theorem State.moveTo_nchunk (st : SeqState) : (s.moveTo st).nchunk = s.nchunk := rfl
@[simp] theorem State.moveTo_readPB (st : SeqState) (x : Nat) : (s.moveTo st).readPB x = s.readPB x := rfl
@[simp] theorem State.moveTo_readFB (st : SeqState) (x : Nat) : (s.moveTo st).readFB x = s.readFB x := rfl
@[simp] theorem State.moveTo_chunk (st : SeqState) (x : Nat) : (s.moveTo st).chunk x = s.chunk x := rfl

/-! ### State.setLatch -/

@[simp] theorem State.setLatch_st (v : Bool) : (s.setLatch v).st = s.st := rfl
@[simp] theorem State.setLatch_idx (v : Bool) : (s.setLatch v).idx = s.idx := rfl
@[simp] theorem State.setLatch_timer (v : Bool) : (s.setLatch v).timer = s.timer := rfl
@[simp] theorem State.setLatch_ackLatch (v : Bool) : (s.setLatch v).ackLatch = v := rfl
@[simp] theorem State.setLatch_subOk (v : Bool) : (s.setLatch v).subOk = s.subOk := rfl
@[simp] theorem State.setLatch_connUp (v : Bool) : (s.setLatch v).connUp = s.connUp := rfl
@[simp] theorem State.setLatch_err (v : Bool) : (s.setLatch v).err = s.err := rfl
@[simp] theorem State.setLatch_failState (v : Bool) : (s.setLatch v).failState = s.failState := rfl
@[simp] theorem State.setLatch_failIdx (v : Bool) : (s.setLatch v).failIdx = s.failIdx := rfl
@[simp] theorem State.setLatch_cmdErr (v : Bool) : (s.setLatch v).cmdErr = s.cmdErr := rfl
@[simp] theorem State.setLatch_payloadLen (v : Bool) : (s.setLatch v).payloadLen = s.payloadLen := rfl
@[simp] theorem State.setLatch_ackTimeout (v : Bool) : (s.setLatch v).ackTimeout = s.ackTimeout := rfl
@[simp] theorem State.setLatch_settleDelay (v : Bool) : (s.setLatch v).settleDelay = s.settleDelay := rfl
@[simp] theorem State.setLatch_cksAddr (v : Bool) : (s.setLatch v).cksAddr = s.cksAddr := rfl
@[simp] theorem State.setLatch_cksLen (v : Bool) : (s.setLatch v).cksLen = s.cksLen := rfl
@[simp] theorem State.setLatch_cksResult (v : Bool) : (s.setLatch v).cksResult = s.cksResult := rfl
@[simp] theorem State.setLatch_frameLen (v : Bool) : (s.setLatch v).frameLen = s.frameLen := rfl
@[simp] theorem State.setLatch_ie (v : Bool) : (s.setLatch v).ie = s.ie := rfl
@[simp] theorem State.setLatch_txCount (v : Bool) : (s.setLatch v).txCount = s.txCount := rfl
@[simp] theorem State.setLatch_pb (v : Bool) : (s.setLatch v).pb = s.pb := rfl
@[simp] theorem State.setLatch_fb (v : Bool) : (s.setLatch v).fb = s.fb := rfl
@[simp] theorem State.setLatch_out (v : Bool) : (s.setLatch v).out = s.out := rfl
@[simp] theorem State.setLatch_inputs (v : Bool) : (s.setLatch v).inputs = s.inputs := rfl
@[simp] theorem State.setLatch_params (v : Bool) : (s.setLatch v).params = s.params := rfl
@[simp] theorem State.setLatch_epoch (v : Bool) : (s.setLatch v).epoch = s.epoch := rfl
@[simp] theorem State.setLatch_latchAssigned (v : Bool) : (s.setLatch v).latchAssigned = true := rfl

@[simp] theorem State.setLatch_input (v : Bool) : (s.setLatch v).input = s.input := rfl
@[simp] theorem State.setLatch_busy (v : Bool) : (s.setLatch v).busy = s.busy := rfl
@[simp] theorem State.setLatch_nchunk (v : Bool) : (s.setLatch v).nchunk = s.nchunk := rfl
@[simp] theorem State.setLatch_readPB (v : Bool) (x : Nat) : (s.setLatch v).readPB x = s.readPB x := rfl
@[simp] theorem State.setLatch_readFB (v : Bool) (x : Nat) : (s.setLatch v).readFB x = s.readFB x := rfl
@[simp] theorem State.setLatch_chunk (v : Bool) (x : Nat) : (s.setLatch v).chunk x = s.chunk x := rfl

/-! ### State.driveRead -/

@[simp] theorem State.driveRead_st (w : Word) : (s.driveRead w).st = s.st := rfl
@[simp] theorem State.driveRead_idx (w : Word) : (s.driveRead w).idx = s.idx := rfl
@[simp] theorem State.driveRead_timer (w : Word) : (s.driveRead w).timer = s.timer := rfl
@[simp] theorem State.driveRead_ackLatch (w : Word) : (s.driveRead w).ackLatch = s.ackLatch := rfl
@[simp] theorem State.driveRead_subOk (w : Word) : (s.driveRead w).subOk = s.subOk := rfl
@[simp] theorem State.driveRead_connUp (w : Word) : (s.driveRead w).connUp = s.connUp := rfl
@[simp] theorem State.driveRead_err (w : Word) : (s.driveRead w).err = s.err := rfl
@[simp] theorem State.driveRead_failState (w : Word) : (s.driveRead w).failState = s.failState := rfl
@[simp] theorem State.driveRead_failIdx (w : Word) : (s.driveRead w).failIdx = s.failIdx := rfl
@[simp] theorem State.driveRead_cmdErr (w : Word) : (s.driveRead w).cmdErr = s.cmdErr := rfl
@[simp] theorem State.driveRead_payloadLen (w : Word) : (s.driveRead w).payloadLen = s.payloadLen := rfl
@[simp] theorem State.driveRead_ackTimeout (w : Word) : (s.driveRead w).ackTimeout = s.ackTimeout := rfl
@[simp] theorem State.driveRead_settleDelay (w : Word) : (s.driveRead w).settleDelay = s.settleDelay := rfl
@[simp] theorem State.driveRead_cksAddr (w : Word) : (s.driveRead w).cksAddr = s.cksAddr := rfl
@[simp] theorem State.driveRead_cksLen (w : Word) : (s.driveRead w).cksLen = s.cksLen := rfl
@[simp] theorem State.driveRead_cksResult (w : Word) : (s.driveRead w).cksResult = s.cksResult := rfl
@[simp] theorem State.driveRead_frameLen (w : Word) : (s.driveRead w).frameLen = s.frameLen := rfl
@[simp] theorem State.driveRead_ie (w : Word) : (s.driveRead w).ie = s.ie := rfl
@[simp] theorem State.driveRead_txCount (w : Word) : (s.driveRead w).txCount = s.txCount := rfl
@[simp] theorem State.driveRead_pb (w : Word) : (s.driveRead w).pb = s.pb := rfl
@[simp] theorem State.driveRead_fb (w : Word) : (s.driveRead w).fb = s.fb := rfl
@[simp] theorem State.driveRead_out (w : Word) : (s.driveRead w).out = { s.out with hrdata := some w } := rfl
@[simp] theorem State.driveRead_inputs (w : Word) : (s.driveRead w).inputs = s.inputs := rfl
@[simp] theorem State.driveRead_params (w : Word) : (s.driveRead w).params = s.params := rfl
@[simp] theorem State.driveRead_epoch (w : Word) : (s.driveRead w).epoch = s.epoch := rfl
@[simp] theorem State.driveRead_latchAssigned (w : Word) : (s.driveRead w).latchAssigned = s.latchAssigned := rfl

@[simp] theorem State.driveRead_input (w : Word) : (s.driveRead w).input = s.input := rfl
@[simp] theorem State.driveRead_busy (w : Word) : (s.driveRead w).busy = s.busy := rfl
@[simp] theorem State.driveRead_nchunk (w : Word) : (s.driveRead w).nchunk = s.nchunk := rfl
@[simp] theorem State.driveRead_readPB (w : Word) (x : Nat) : (s.driveRead w).readPB x = s.readPB x := rfl
@[simp] theorem State.driveRead_readFB (w : Word) (x : Nat) : (s.driveRead w).readFB x = s.readFB x := rfl
@[simp] theorem State.driveRead_chunk (w : Word) (x : Nat) : (s.driveRead w).chunk x = s.chunk x := rfl

/-! ### State.emitConnect -/

@[simp] theorem State.emitConnect_st : (s.emitConnect).st = s.st := rfl
@[simp] theorem State.emitConnect_idx : (s.emitConnect).idx = s.idx := rfl
@[simp] theorem State.emitConnect_timer : (s.emitConnect).timer = s.timer := rfl
@[simp] theorem State.emitConnect_ackLatch : (s.emitConnect).ackLatch = s.ackLatch := rfl
@[simp] theorem State.emitConnect_subOk : (s.emitConnect).subOk = s.subOk := rfl
@[simp] theorem State.emitConnect_connUp : (s.emitConnect).connUp = s.connUp := rfl
@[simp] theorem State.emitConnect_err : (s.emitConnect).err = s.err := rfl
@[simp] theorem State.emitConnect_failState : (s.emitConnect).failState = s.failState := rfl
@[simp] theorem State.emitConnect_failIdx : (s.emitConnect).failIdx = s.failIdx := rfl
@[simp] theorem State.emitConnect_cmdErr : (s.emitConnect).cmdErr = s.cmdErr := rfl
@[simp] theorem State.emitConnect_payloadLen : (s.emitConnect).payloadLen = s.payloadLen := rfl
@[simp] theorem State.emitConnect_ackTimeout : (s.emitConnect).ackTimeout = s.ackTimeout := rfl
@[simp] theorem State.emitConnect_settleDelay : (s.emitConnect).settleDelay = s.settleDelay := rfl
@[simp] theorem State.emitConnect_cksAddr : (s.emitConnect).cksAddr = s.cksAddr := rfl
@[simp] theorem State.emitConnect_cksLen : (s.emitConnect).cksLen = s.cksLen := rfl
@[simp] theorem State.emitConnect_cksResult : (s.emitConnect).cksResult = s.cksResult := rfl
@[simp] theorem State.emitConnect_frameLen : (s.emitConnect).frameLen = s.frameLen := rfl
@[simp] theorem State.emitConnect_ie : (s.emitConnect).ie = s.ie := rfl
@[simp] theorem State.emitConnect_txCount : (s.emitConnect).txCount = s.txCount := rfl
@[simp] theorem State.emitConnect_pb : (s.emitConnect).pb = s.pb := rfl
@[simp] theorem State.emitConnect_fb : (s.emitConnect).fb = s.fb := rfl
@[simp] theorem State.emitConnect_out : (s.emitConnect).out = { s.out with connReq := some s.params.deviceAddr } := rfl
@[simp] theorem State.emitConnect_inputs : (s.emitConnect).inputs = s.inputs := rfl
@[simp] theorem State.emitConnect_params : (s.emitConnect).params = s.params := rfl
@[simp] theorem State.emitConnect_epoch : (s.emitConnect).epoch = s.epoch := rfl
@[simp] theorem State.emitConnect_latchAssigned : (s.emitConnect).latchAssigned = s.latchAssigned := rfl

@[simp] theorem State.emitConnect_input : (s.emitConnect).input = s.input := rfl
@[simp] theorem State.emitConnect_busy : (s.emitConnect).busy = s.busy := rfl
@[simp] theorem State.emitConnect_nchunk : (s.emitConnect).nchunk = s.nchunk := rfl
@[simp] theorem State.emitConnect_readPB (x : Nat) : (s.emitConnect).readPB x = s.readPB x := rfl
@[simp] theorem State.emitConnect_readFB (x : Nat) : (s.emitConnect).readFB x = s.readFB x := rfl
@[simp] theorem State.emitConnect_chunk (x : Nat) : (s.emitConnect).chunk x = s.chunk x := rfl

/-! ### State.emitSubscribe -/

@[simp] theorem State.emitSubscribe_st : (s.emitSubscribe).st = s.st := rfl
@[simp] theorem State.emitSubscribe_idx : (s.emitSubscribe).idx = s.idx := rfl
@[simp] theorem State.emitSubscribe_timer : (s.emitSubscribe).timer = s.timer := rfl
@[simp] theorem State.emitSubscribe_ackLatch : (s.emitSubscribe).ackLatch = s.ackLatch := rfl
@[simp] theorem State.emitSubscribe_subOk : (s.emitSubscribe).subOk = s.subOk := rfl
@[simp] theorem State.emitSubscribe_connUp : (s.emitSubscribe).connUp = s.connUp := rfl
@[simp] theorem State.emitSubscribe_err : (s.emitSubscribe).err = s.err := rfl
@[simp] theorem State.emitSubscribe_failState : (s.emitSubscribe).failState = s.failState := rfl
@[simp] theorem State.emitSubscribe_failIdx : (s.emitSubscribe).failIdx = s.failIdx := rfl
@[simp] theorem State.emitSubscribe_cmdErr : (s.emitSubscribe).cmdErr = s.cmdErr := rfl
@[simp] theorem State.emitSubscribe_payloadLen : (s.emitSubscribe).payloadLen = s.payloadLen := rfl
@[simp] theorem State.emitSubscribe_ackTimeout : (s.emitSubscribe).ackTimeout = s.ackTimeout := rfl
@[simp] theorem State.emitSubscribe_settleDelay : (s.emitSubscribe).settleDelay = s.settleDelay := rfl
@[simp] theorem State.emitSubscribe_cksAddr : (s.emitSubscribe).cksAddr = s.cksAddr := rfl
@[simp] theorem State.emitSubscribe_cksLen : (s.emitSubscribe).cksLen = s.cksLen := rfl
@[simp] theorem State.emitSubscribe_cksResult : (s.emitSubscribe).cksResult = s.cksResult := rfl
@[simp] theorem State.emitSubscribe_frameLen : (s.emitSubscribe).frameLen = s.frameLen := rfl
@[simp] theorem State.emitSubscribe_ie : (s.emitSubscribe).ie = s.ie := rfl
@[simp] theorem State.emitSubscribe_txCount : (s.emitSubscribe).txCount = s.txCount := rfl
@[simp] theorem State.emitSubscribe_pb : (s.emitSubscribe).pb = s.pb := rfl
@[simp] theorem State.emitSubscribe_fb : (s.emitSubscribe).fb = s.fb := rfl
@[simp] theorem State.emitSubscribe_out :
    (s.emitSubscribe).out = { s.out with subReq0 := some s.params.subId0, subReq1 := some s.params.subId1 } := rfl
@[simp] theorem State.emitSubscribe_inputs : (s.emitSubscribe).inputs = s.inputs := rfl
@[simp] theorem State.emitSubscribe_params : (s.emitSubscribe).params = s.params := rfl
@[simp] theorem State.emitSubscribe_epoch : (s.emitSubscribe).epoch = s.epoch := rfl
@[simp] theorem State.emitSubscribe_latchAssigned : (s.emitSubscribe).latchAssigned = s.latchAssigned := rfl

@[simp] theorem State.emitSubscribe_input : (s.emitSubscribe).input = s.input := rfl
@[simp] theorem State.emitSubscribe_busy : (s.emitSubscribe).busy = s.busy := rfl
@[simp] theorem State.emitSubscribe_nchunk : (s.emitSubscribe).nchunk = s.nchunk := rfl
@[simp] theorem State.emitSubscribe_readPB (x : Nat) : (s.emitSubscribe).readPB x = s.readPB x := rfl
@[simp] theorem State.emitSubscribe_readFB (x : Nat) : (s.emitSubscribe).readFB x = s.readFB x := rfl
@[simp] theorem State.emitSubscribe_chunk (x : Nat) : (s.emitSubscribe).chunk x = s.chunk x := rfl

/-! ### State.issue -/

@[simp] theorem State.issue_st (k : FrameKind) (F : List Byte) (e : Bool) : (s.issue k F e).st = s.st := rfl
@[simp] theorem State.issue_idx (k : FrameKind) (F : List Byte) (e : Bool) : (s.issue k F e).idx = s.idx := rfl
@[simp] theorem State.issue_timer (k : FrameKind) (F : List Byte) (e : Bool) : (s.issue k F e).timer = s.timer := rfl
@[simp] theorem State.issue_ackLatch (k : FrameKind) (F : List Byte) (e : Bool) :
    (s.issue k F e).ackLatch = s.ackLatch := rfl
@[simp] theorem State.issue_subOk (k : FrameKind) (F : List Byte) (e : Bool) : (s.issue k F e).subOk = s.subOk := rfl
@[simp] theorem State.issue_connUp (k : FrameKind) (F : List Byte) (e : Bool) : (s.issue k F e).connUp = s.connUp := rfl
@[simp] theorem State.issue_err (k : FrameKind) (F : List Byte) (e : Bool) : (s.issue k F e).err = s.err := rfl
@[simp] theorem State.issue_failState (k : FrameKind) (F : List Byte) (e : Bool) :
    (s.issue k F e).failState = s.failState := rfl
@[simp] theorem State.issue_failIdx (k : FrameKind) (F : List Byte) (e : Bool) :
    (s.issue k F e).failIdx = s.failIdx := rfl
@[simp] theorem State.issue_cmdErr (k : FrameKind) (F : List Byte) (e : Bool) : (s.issue k F e).cmdErr = s.cmdErr := rfl
@[simp] theorem State.issue_payloadLen (k : FrameKind) (F : List Byte) (e : Bool) :
    (s.issue k F e).payloadLen = s.payloadLen := rfl
@[simp] theorem State.issue_ackTimeout (k : FrameKind) (F : List Byte) (e : Bool) :
    (s.issue k F e).ackTimeout = s.ackTimeout := rfl
@[simp] theorem State.issue_settleDelay (k : FrameKind) (F : List Byte) (e : Bool) :
    (s.issue k F e).settleDelay = s.settleDelay := rfl
@[simp] theorem State.issue_cksAddr (k : FrameKind) (F : List Byte) (e : Bool) :
    (s.issue k F e).cksAddr = s.cksAddr := rfl
@[simp] theorem State.issue_cksLen (k : FrameKind) (F : List Byte) (e : Bool) : (s.issue k F e).cksLen = s.cksLen := rfl
@[simp] theorem State.issue_cksResult (k : FrameKind) (F : List Byte) (e : Bool) :
    (s.issue k F e).cksResult = s.cksResult := rfl
@[simp] theorem State.issue_frameLen (k : FrameKind) (F : List Byte) (e : Bool) :
    (s.issue k F e).frameLen = s.frameLen := rfl
@[simp] theorem State.issue_ie (k : FrameKind) (F : List Byte) (e : Bool) : (s.issue k F e).ie = s.ie := rfl
@[simp] theorem State.issue_txCount (k : FrameKind) (F : List Byte) (e : Bool) :
    (s.issue k F e).txCount = s.txCount + 1 := rfl
@[simp] theorem State.issue_pb (k : FrameKind) (F : List Byte) (e : Bool) : (s.issue k F e).pb = s.pb := rfl
@[simp] theorem State.issue_fb (k : FrameKind) (F : List Byte) (e : Bool) : (s.issue k F e).fb = s.fb := rfl
@[simp] theorem State.issue_out (k : FrameKind) (F : List Byte) (e : Bool) :
    (s.issue k F e).out = { s.out with txReq := some ⟨k, s.params.writeHandle, F, e⟩ } := rfl
@[simp] theorem State.issue_inputs (k : FrameKind) (F : List Byte) (e : Bool) : (s.issue k F e).inputs = s.inputs := rfl
@[simp] theorem State.issue_params (k : FrameKind) (F : List Byte) (e : Bool) : (s.issue k F e).params = s.params := rfl
@[simp] theorem State.issue_epoch (k : FrameKind) (F : List Byte) (e : Bool) : (s.issue k F e).epoch = s.epoch := rfl
@[simp] theorem State.issue_latchAssigned (k : FrameKind) (F : List Byte) (e : Bool) :
    (s.issue k F e).latchAssigned = s.latchAssigned := rfl

@[simp] theorem State.issue_input (k : FrameKind) (F : List Byte) (e : Bool) : (s.issue k F e).input = s.input := rfl
@[simp] theorem State.issue_busy (k : FrameKind) (F : List Byte) (e : Bool) : (s.issue k F e).busy = s.busy := rfl
@[simp] theorem State.issue_nchunk (k : FrameKind) (F : List Byte) (e : Bool) : (s.issue k F e).nchunk = s.nchunk := rfl
@[simp] theorem State.issue_readPB (k : FrameKind) (F : List Byte) (e : Bool) (x : Nat) :
    (s.issue k F e).readPB x = s.readPB x := rfl
@[simp] theorem State.issue_readFB (k : FrameKind) (F : List Byte) (e : Bool) (x : Nat) :
    (s.issue k F e).readFB x = s.readFB x := rfl
@[simp] theorem State.issue_chunk (k : FrameKind) (F : List Byte) (e : Bool) (x : Nat) :
    (s.issue k F e).chunk x = s.chunk x := rfl

/-! ### State.release -/

@[simp] theorem State.release_st : (s.release).st = s.st := rfl
@[simp] theorem State.release_idx : (s.release).idx = s.idx := rfl
@[simp] theorem State.release_timer : (s.release).timer = s.timer := rfl
@[simp] theorem State.release_ackLatch : (s.release).ackLatch = s.ackLatch := rfl
@[simp] theorem State.release_subOk : (s.release).subOk = s.subOk := rfl
@[simp] theorem State.release_connUp : (s.release).connUp = false := rfl
@[simp] theorem State.release_err : (s.release).err = s.err := rfl
@[simp] theorem State.release_failState : (s.release).failState = s.failState := rfl
@[simp] theorem State.release_failIdx : (s.release).failIdx = s.failIdx := rfl
@[simp] theorem State.release_cmdErr : (s.release).cmdErr = s.cmdErr := rfl
@[simp] theorem State.release_payloadLen : (s.release).payloadLen = s.payloadLen := rfl
@[simp] theorem State.release_ackTimeout : (s.release).ackTimeout = s.ackTimeout := rfl
@[simp] theorem State.release_settleDelay : (s.release).settleDelay = s.settleDelay := rfl
@[simp] theorem State.release_cksAddr : (s.release).cksAddr = s.cksAddr := rfl
@[simp] theorem State.release_cksLen : (s.release).cksLen = s.cksLen := rfl
@[simp] theorem State.release_cksResult : (s.release).cksResult = s.cksResult := rfl
@[simp] theorem State.release_frameLen : (s.release).frameLen = s.frameLen := rfl
@[simp] theorem State.release_ie : (s.release).ie = s.ie := rfl
@[simp] theorem State.release_txCount : (s.release).txCount = s.txCount := rfl
@[simp] theorem State.release_pb : (s.release).pb = s.pb := rfl
@[simp] theorem State.release_fb : (s.release).fb = s.fb := rfl
@[simp] theorem State.release_out : (s.release).out = { s.out with discReq := true } := rfl
@[simp] theorem State.release_inputs : (s.release).inputs = s.inputs := rfl
@[simp] theorem State.release_params : (s.release).params = s.params := rfl
@[simp] theorem State.release_epoch : (s.release).epoch = s.epoch := rfl
@[simp] theorem State.release_latchAssigned : (s.release).latchAssigned = s.latchAssigned := rfl

@[simp] theorem State.release_input : (s.release).input = s.input := rfl
@[simp] theorem State.release_busy : (s.release).busy = s.busy := rfl
@[simp] theorem State.release_nchunk : (s.release).nchunk = s.nchunk := rfl
@[simp] theorem State.release_readPB (x : Nat) : (s.release).readPB x = s.readPB x := rfl
@[simp] theorem State.release_readFB (x : Nat) : (s.release).readFB x = s.readFB x := rfl
@[simp] theorem State.release_chunk (x : Nat) : (s.release).chunk x = s.chunk x := rfl

/-! ### State.zeroSession -/

@[simp] theorem State.zeroSession_st : (s.zeroSession).st = s.st := rfl
@[simp] theorem State.zeroSession_idx : (s.zeroSession).idx = 0 := rfl
@[simp] theorem State.zeroSession_timer : (s.zeroSession).timer = 0 := rfl
@[simp] theorem State.zeroSession_ackLatch : (s.zeroSession).ackLatch = false := rfl
@[simp] theorem State.zeroSession_subOk : (s.zeroSession).subOk = 0 := rfl
@[simp] theorem State.zeroSession_connUp : (s.zeroSession).connUp = s.connUp := rfl
@[simp] theorem State.zeroSession_err : (s.zeroSession).err = .none := rfl
@[simp] theorem State.zeroSession_failState : (s.zeroSession).failState = .idle := rfl
@[simp] theorem State.zeroSession_failIdx : (s.zeroSession).failIdx = 0 := rfl
@[simp] theorem State.zeroSession_cmdErr : (s.zeroSession).cmdErr = s.cmdErr := rfl
@[simp] theorem State.zeroSession_payloadLen : (s.zeroSession).payloadLen = s.payloadLen := rfl
@[simp] theorem State.zeroSession_ackTimeout : (s.zeroSession).ackTimeout = s.ackTimeout := rfl
@[simp] theorem State.zeroSession_settleDelay : (s.zeroSession).settleDelay = s.settleDelay := rfl
@[simp] theorem State.zeroSession_cksAddr : (s.zeroSession).cksAddr = s.cksAddr := rfl
@[simp] theorem State.zeroSession_cksLen : (s.zeroSession).cksLen = s.cksLen := rfl
@[simp] theorem State.zeroSession_cksResult : (s.zeroSession).cksResult = s.cksResult := rfl
@[simp] theorem State.zeroSession_frameLen : (s.zeroSession).frameLen = s.frameLen := rfl
@[simp] theorem State.zeroSession_ie : (s.zeroSession).ie = s.ie := rfl
@[simp] theorem State.zeroSession_txCount : (s.zeroSession).txCount = 0 := rfl
@[simp] theorem State.zeroSession_pb : (s.zeroSession).pb = s.pb := rfl
@[simp] theorem State.zeroSession_fb : (s.zeroSession).fb = s.fb := rfl
@[simp] theorem State.zeroSession_out : (s.zeroSession).out = s.out := rfl
@[simp] theorem State.zeroSession_inputs : (s.zeroSession).inputs = s.inputs := rfl
@[simp] theorem State.zeroSession_params : (s.zeroSession).params = s.params := rfl
@[simp] theorem State.zeroSession_epoch : (s.zeroSession).epoch = s.epoch := rfl
@[simp] theorem State.zeroSession_latchAssigned : (s.zeroSession).latchAssigned = true := rfl

@[simp] theorem State.zeroSession_input : (s.zeroSession).input = s.input := rfl
@[simp] theorem State.zeroSession_busy : (s.zeroSession).busy = s.busy := rfl
@[simp] theorem State.zeroSession_nchunk : (s.zeroSession).nchunk = s.nchunk := rfl
@[simp] theorem State.zeroSession_readPB (x : Nat) : (s.zeroSession).readPB x = s.readPB x := rfl
@[simp] theorem State.zeroSession_readFB (x : Nat) : (s.zeroSession).readFB x = s.readFB x := rfl
@[simp] theorem State.zeroSession_chunk (x : Nat) : (s.zeroSession).chunk x = s.chunk x := rfl

/-! ### State.clearSession -/

@[simp] theorem State.clearSession_st : (s.clearSession).st = .idle := rfl
@[simp] theorem State.clearSession_idx : (s.clearSession).idx = 0 := rfl
@[simp] theorem State.clearSession_timer : (s.clearSession).timer = 0 := rfl
@[simp] theorem State.clearSession_ackLatch : (s.clearSession).ackLatch = false := rfl
@[simp] theorem State.clearSession_subOk : (s.clearSession).subOk = 0 := rfl
@[simp] theorem State.clearSession_connUp : (s.clearSession).connUp = s.connUp := rfl
@[simp] theorem State.clearSession_err : (s.clearSession).err = .none := rfl
@[simp] theorem State.clearSession_failState : (s.clearSession).failState = .idle := rfl
@[simp] theorem State.clearSession_failIdx : (s.clearSession).failIdx = 0 := rfl
@[simp] theorem State.clearSession_cmdErr : (s.clearSession).cmdErr = .ok := rfl
@[simp] theorem State.clearSession_payloadLen : (s.clearSession).payloadLen = s.payloadLen := rfl
@[simp] theorem State.clearSession_ackTimeout : (s.clearSession).ackTimeout = s.ackTimeout := rfl
@[simp] theorem State.clearSession_settleDelay : (s.clearSession).settleDelay = s.settleDelay := rfl
@[simp] theorem State.clearSession_cksAddr : (s.clearSession).cksAddr = s.cksAddr := rfl
@[simp] theorem State.clearSession_cksLen : (s.clearSession).cksLen = s.cksLen := rfl
@[simp] theorem State.clearSession_cksResult : (s.clearSession).cksResult = s.cksResult := rfl
@[simp] theorem State.clearSession_frameLen : (s.clearSession).frameLen = s.frameLen := rfl
@[simp] theorem State.clearSession_ie : (s.clearSession).ie = s.ie := rfl
@[simp] theorem State.clearSession_txCount : (s.clearSession).txCount = 0 := rfl
@[simp] theorem State.clearSession_pb : (s.clearSession).pb = s.pb := rfl
@[simp] theorem State.clearSession_fb : (s.clearSession).fb = s.fb := rfl
@[simp] theorem State.clearSession_out : (s.clearSession).out = s.out := rfl
@[simp] theorem State.clearSession_inputs : (s.clearSession).inputs = s.inputs := rfl
@[simp] theorem State.clearSession_params : (s.clearSession).params = s.params := rfl
@[simp] theorem State.clearSession_epoch : (s.clearSession).epoch = s.epoch := rfl
@[simp] theorem State.clearSession_latchAssigned : (s.clearSession).latchAssigned = true := rfl

@[simp] theorem State.clearSession_input : (s.clearSession).input = s.input := rfl
@[simp] theorem State.clearSession_nchunk : (s.clearSession).nchunk = s.nchunk := rfl
@[simp] theorem State.clearSession_readPB (x : Nat) : (s.clearSession).readPB x = s.readPB x := rfl
@[simp] theorem State.clearSession_readFB (x : Nat) : (s.clearSession).readFB x = s.readFB x := rfl
@[simp] theorem State.clearSession_chunk (x : Nat) : (s.clearSession).chunk x = s.chunk x := rfl

/-! ### State.complete -/

@[simp] theorem State.complete_st : (s.complete).st = .completed := rfl
@[simp] theorem State.complete_idx : (s.complete).idx = s.idx := rfl
@[simp] theorem State.complete_timer : (s.complete).timer = s.timer := rfl
@[simp] theorem State.complete_ackLatch : (s.complete).ackLatch = s.ackLatch := rfl
@[simp] theorem State.complete_subOk : (s.complete).subOk = s.subOk := rfl
@[simp] theorem State.complete_connUp : (s.complete).connUp = false := rfl
@[simp] theorem State.complete_err : (s.complete).err = s.err := rfl
@[simp] theorem State.complete_failState : (s.complete).failState = s.failState := rfl
@[simp] theorem State.complete_failIdx : (s.complete).failIdx = s.failIdx := rfl
@[simp] theorem State.complete_cmdErr : (s.complete).cmdErr = s.cmdErr := rfl
@[simp] theorem State.complete_payloadLen : (s.complete).payloadLen = s.payloadLen := rfl
@[simp] theorem State.complete_ackTimeout : (s.complete).ackTimeout = s.ackTimeout := rfl
@[simp] theorem State.complete_settleDelay : (s.complete).settleDelay = s.settleDelay := rfl
@[simp] theorem State.complete_cksAddr : (s.complete).cksAddr = s.cksAddr := rfl
@[simp] theorem State.complete_cksLen : (s.complete).cksLen = s.cksLen := rfl
@[simp] theorem State.complete_cksResult : (s.complete).cksResult = s.cksResult := rfl
@[simp] theorem State.complete_frameLen : (s.complete).frameLen = s.frameLen := rfl
@[simp] theorem State.complete_ie : (s.complete).ie = s.ie := rfl
@[simp] theorem State.complete_txCount : (s.complete).txCount = s.txCount := rfl
@[simp] theorem State.complete_pb : (s.complete).pb = s.pb := rfl
@[simp] theorem State.complete_fb : (s.complete).fb = s.fb := rfl
@[simp] theorem State.complete_out : (s.complete).out = { s.out with discReq := true } := rfl
@[simp] theorem State.complete_inputs : (s.complete).inputs = s.inputs := rfl
@[simp] theorem State.complete_params : (s.complete).params = s.params := rfl
@[simp] theorem State.complete_epoch : (s.complete).epoch = s.epoch := rfl
@[simp] theorem State.complete_latchAssigned : (s.complete).latchAssigned = s.latchAssigned := rfl

@[simp] theorem State.complete_input : (s.complete).input = s.input := rfl
@[simp] theorem State.complete_nchunk : (s.complete).nchunk = s.nchunk := rfl
@[simp] theorem State.complete_readPB (x : Nat) : (s.complete).readPB x = s.readPB x := rfl
@[simp] theorem State.complete_readFB (x : Nat) : (s.complete).readFB x = s.readFB x := rfl
@[simp] theorem State.complete_chunk (x : Nat) : (s.complete).chunk x = s.chunk x := rfl

/-! ### State.storeDataFrame -/

@[simp] theorem State.storeDataFrame_st (i : Byte) (n : BitVec 9) (F : Vector Byte 196) :
    (s.storeDataFrame i n F).st = s.st := rfl
@[simp] theorem State.storeDataFrame_idx (i : Byte) (n : BitVec 9) (F : Vector Byte 196) :
    (s.storeDataFrame i n F).idx = s.idx := rfl
@[simp] theorem State.storeDataFrame_timer (i : Byte) (n : BitVec 9) (F : Vector Byte 196) :
    (s.storeDataFrame i n F).timer = s.timer := rfl
@[simp] theorem State.storeDataFrame_ackLatch (i : Byte) (n : BitVec 9) (F : Vector Byte 196) :
    (s.storeDataFrame i n F).ackLatch = s.ackLatch := rfl
@[simp] theorem State.storeDataFrame_subOk (i : Byte) (n : BitVec 9) (F : Vector Byte 196) :
    (s.storeDataFrame i n F).subOk = s.subOk := rfl
@[simp] theorem State.storeDataFrame_connUp (i : Byte) (n : BitVec 9) (F : Vector Byte 196) :
    (s.storeDataFrame i n F).connUp = s.connUp := rfl
@[simp] theorem State.storeDataFrame_err (i : Byte) (n : BitVec 9) (F : Vector Byte 196) :
    (s.storeDataFrame i n F).err = s.err := rfl
@[simp] theorem State.storeDataFrame_failState (i : Byte) (n : BitVec 9) (F : Vector Byte 196) :
    (s.storeDataFrame i n F).failState = s.failState := rfl
@[simp] theorem State.storeDataFrame_failIdx (i : Byte) (n : BitVec 9) (F : Vector Byte 196) :
    (s.storeDataFrame i n F).failIdx = s.failIdx := rfl
@[simp] theorem State.storeDataFrame_cmdErr (i : Byte) (n : BitVec 9) (F : Vector Byte 196) :
    (s.storeDataFrame i n F).cmdErr = s.cmdErr := rfl
@[simp] theorem State.storeDataFrame_payloadLen (i : Byte) (n : BitVec 9) (F : Vector Byte 196) :
    (s.storeDataFrame i n F).payloadLen = s.payloadLen := rfl
@[simp] theorem State.storeDataFrame_ackTimeout (i : Byte) (n : BitVec 9) (F : Vector Byte 196) :
    (s.storeDataFrame i n F).ackTimeout = s.ackTimeout := rfl
@[simp] theorem State.storeDataFrame_settleDelay (i : Byte) (n : BitVec 9) (F : Vector Byte 196) :
    (s.storeDataFrame i n F).settleDelay = s.settleDelay := rfl
@[simp] theorem State.storeDataFrame_cksAddr (i : Byte) (n : BitVec 9) (F : Vector Byte 196) :
    (s.storeDataFrame i n F).cksAddr = s.cksAddr := rfl
@[simp] theorem State.storeDataFrame_cksLen (i : Byte) (n : BitVec 9) (F : Vector Byte 196) :
    (s.storeDataFrame i n F).cksLen = s.cksLen := rfl
@[simp] theorem State.storeDataFrame_cksResult (i : Byte) (n : BitVec 9) (F : Vector Byte 196) :
    (s.storeDataFrame i n F).cksResult = frameChecksum s.params i n F := rfl
@[simp] theorem State.storeDataFrame_frameLen (i : Byte) (n : BitVec 9) (F : Vector Byte 196) :
    (s.storeDataFrame i n F).frameLen = 244 := rfl
@[simp] theorem State.storeDataFrame_ie (i : Byte) (n : BitVec 9) (F : Vector Byte 196) :
    (s.storeDataFrame i n F).ie = s.ie := rfl
@[simp] theorem State.storeDataFrame_txCount (i : Byte) (n : BitVec 9) (F : Vector Byte 196) :
    (s.storeDataFrame i n F).txCount = s.txCount := rfl
@[simp] theorem State.storeDataFrame_pb (i : Byte) (n : BitVec 9) (F : Vector Byte 196) :
    (s.storeDataFrame i n F).pb = s.pb := rfl
@[simp] theorem State.storeDataFrame_fb (i : Byte) (n : BitVec 9) (F : Vector Byte 196) :
    (s.storeDataFrame i n F).fb = Memory.ofBytes 0 (dataFrame s.params i n F) := rfl
@[simp] theorem State.storeDataFrame_out (i : Byte) (n : BitVec 9) (F : Vector Byte 196) :
    (s.storeDataFrame i n F).out = s.out := rfl
@[simp] theorem State.storeDataFrame_inputs (i : Byte) (n : BitVec 9) (F : Vector Byte 196) :
    (s.storeDataFrame i n F).inputs = s.inputs := rfl
@[simp] theorem State.storeDataFrame_params (i : Byte) (n : BitVec 9) (F : Vector Byte 196) :
    (s.storeDataFrame i n F).params = s.params := rfl
@[simp] theorem State.storeDataFrame_epoch (i : Byte) (n : BitVec 9) (F : Vector Byte 196) :
    (s.storeDataFrame i n F).epoch = s.epoch := rfl
@[simp] theorem State.storeDataFrame_latchAssigned (i : Byte) (n : BitVec 9) (F : Vector Byte 196) :
    (s.storeDataFrame i n F).latchAssigned = s.latchAssigned := rfl

@[simp] theorem State.storeDataFrame_input (i : Byte) (n : BitVec 9) (F : Vector Byte 196) :
    (s.storeDataFrame i n F).input = s.input := rfl
@[simp] theorem State.storeDataFrame_busy (i : Byte) (n : BitVec 9) (F : Vector Byte 196) :
    (s.storeDataFrame i n F).busy = s.busy := rfl
@[simp] theorem State.storeDataFrame_nchunk (i : Byte) (n : BitVec 9) (F : Vector Byte 196) :
    (s.storeDataFrame i n F).nchunk = s.nchunk := rfl
@[simp] theorem State.storeDataFrame_readPB (i : Byte) (n : BitVec 9) (F : Vector Byte 196) (x : Nat) :
    (s.storeDataFrame i n F).readPB x = s.readPB x := rfl
@[simp] theorem State.storeDataFrame_chunk (i : Byte) (n : BitVec 9) (F : Vector Byte 196) (x : Nat) :
    (s.storeDataFrame i n F).chunk x = s.chunk x := rfl

/-! ### State.issueData -/

@[simp] theorem State.issueData_st (i : Byte) (n : BitVec 9) (F : Vector Byte 196) :
    (s.issueData i n F).st = s.st := rfl
@[simp] theorem State.issueData_idx (i : Byte) (n : BitVec 9) (F : Vector Byte 196) :
    (s.issueData i n F).idx = s.idx := rfl
@[simp] theorem State.issueData_timer (i : Byte) (n : BitVec 9) (F : Vector Byte 196) :
    (s.issueData i n F).timer = s.timer := rfl
@[simp] theorem State.issueData_ackLatch (i : Byte) (n : BitVec 9) (F : Vector Byte 196) :
    (s.issueData i n F).ackLatch = s.input.ackIn := rfl
@[simp] theorem State.issueData_subOk (i : Byte) (n : BitVec 9) (F : Vector Byte 196) :
    (s.issueData i n F).subOk = s.subOk := rfl
@[simp] theorem State.issueData_connUp (i : Byte) (n : BitVec 9) (F : Vector Byte 196) :
    (s.issueData i n F).connUp = s.connUp := rfl
@[simp] theorem State.issueData_err (i : Byte) (n : BitVec 9) (F : Vector Byte 196) :
    (s.issueData i n F).err = s.err := rfl
@[simp] theorem State.issueData_failState (i : Byte) (n : BitVec 9) (F : Vector Byte 196) :
    (s.issueData i n F).failState = s.failState := rfl
@[simp] theorem State.issueData_failIdx (i : Byte) (n : BitVec 9) (F : Vector Byte 196) :
    (s.issueData i n F).failIdx = s.failIdx := rfl
@[simp] theorem State.issueData_cmdErr (i : Byte) (n : BitVec 9) (F : Vector Byte 196) :
    (s.issueData i n F).cmdErr = s.cmdErr := rfl
@[simp] theorem State.issueData_payloadLen (i : Byte) (n : BitVec 9) (F : Vector Byte 196) :
    (s.issueData i n F).payloadLen = s.payloadLen := rfl
@[simp] theorem State.issueData_ackTimeout (i : Byte) (n : BitVec 9) (F : Vector Byte 196) :
    (s.issueData i n F).ackTimeout = s.ackTimeout := rfl
@[simp] theorem State.issueData_settleDelay (i : Byte) (n : BitVec 9) (F : Vector Byte 196) :
    (s.issueData i n F).settleDelay = s.settleDelay := rfl
@[simp] theorem State.issueData_cksAddr (i : Byte) (n : BitVec 9) (F : Vector Byte 196) :
    (s.issueData i n F).cksAddr = s.cksAddr := rfl
@[simp] theorem State.issueData_cksLen (i : Byte) (n : BitVec 9) (F : Vector Byte 196) :
    (s.issueData i n F).cksLen = s.cksLen := rfl
@[simp] theorem State.issueData_cksResult (i : Byte) (n : BitVec 9) (F : Vector Byte 196) :
    (s.issueData i n F).cksResult = frameChecksum s.params i n F := rfl
@[simp] theorem State.issueData_frameLen (i : Byte) (n : BitVec 9) (F : Vector Byte 196) :
    (s.issueData i n F).frameLen = 244 := rfl
@[simp] theorem State.issueData_ie (i : Byte) (n : BitVec 9) (F : Vector Byte 196) :
    (s.issueData i n F).ie = s.ie := rfl
@[simp] theorem State.issueData_txCount (i : Byte) (n : BitVec 9) (F : Vector Byte 196) :
    (s.issueData i n F).txCount = s.txCount + 1 := rfl
@[simp] theorem State.issueData_pb (i : Byte) (n : BitVec 9) (F : Vector Byte 196) :
    (s.issueData i n F).pb = s.pb := rfl
@[simp] theorem State.issueData_fb (i : Byte) (n : BitVec 9) (F : Vector Byte 196) :
    (s.issueData i n F).fb = Memory.ofBytes 0 (dataFrame s.params i n F) := rfl
@[simp] theorem State.issueData_out (i : Byte) (n : BitVec 9) (F : Vector Byte 196) :
    (s.issueData i n F).out = { s.out with txReq := some ⟨.data, s.params.writeHandle, dataFrame s.params i n F, s.params.writeRespData⟩ } := rfl
@[simp] theorem State.issueData_inputs (i : Byte) (n : BitVec 9) (F : Vector Byte 196) :
    (s.issueData i n F).inputs = s.inputs := rfl
@[simp] theorem State.issueData_params (i : Byte) (n : BitVec 9) (F : Vector Byte 196) :
    (s.issueData i n F).params = s.params := rfl
@[simp] theorem State.issueData_epoch (i : Byte) (n : BitVec 9) (F : Vector Byte 196) :
    (s.issueData i n F).epoch = s.epoch := rfl
@[simp] theorem State.issueData_latchAssigned (i : Byte) (n : BitVec 9) (F : Vector Byte 196) :
    (s.issueData i n F).latchAssigned = true := rfl

@[simp] theorem State.issueData_input (i : Byte) (n : BitVec 9) (F : Vector Byte 196) :
    (s.issueData i n F).input = s.input := rfl
@[simp] theorem State.issueData_busy (i : Byte) (n : BitVec 9) (F : Vector Byte 196) :
    (s.issueData i n F).busy = s.busy := rfl
@[simp] theorem State.issueData_nchunk (i : Byte) (n : BitVec 9) (F : Vector Byte 196) :
    (s.issueData i n F).nchunk = s.nchunk := rfl
@[simp] theorem State.issueData_readPB (i : Byte) (n : BitVec 9) (F : Vector Byte 196) (x : Nat) :
    (s.issueData i n F).readPB x = s.readPB x := rfl
@[simp] theorem State.issueData_chunk (i : Byte) (n : BitVec 9) (F : Vector Byte 196) (x : Nat) :
    (s.issueData i n F).chunk x = s.chunk x := rfl

/-! ### State.countTick -/

@[simp] theorem State.countTick_st : (s.countTick).st = s.st := rfl
@[simp] theorem State.countTick_idx : (s.countTick).idx = s.idx := rfl
@[simp] theorem State.countTick_timer : (s.countTick).timer = s.timer + 1 := rfl
@[simp] theorem State.countTick_ackLatch : (s.countTick).ackLatch = s.ackLatch := rfl
@[simp] theorem State.countTick_subOk : (s.countTick).subOk = s.subOk := rfl
@[simp] theorem State.countTick_connUp : (s.countTick).connUp = s.connUp := rfl
@[simp] theorem State.countTick_err : (s.countTick).err = s.err := rfl
@[simp] theorem State.countTick_failState : (s.countTick).failState = s.failState := rfl
@[simp] theorem State.countTick_failIdx : (s.countTick).failIdx = s.failIdx := rfl
@[simp] theorem State.countTick_cmdErr : (s.countTick).cmdErr = s.cmdErr := rfl
@[simp] theorem State.countTick_payloadLen : (s.countTick).payloadLen = s.payloadLen := rfl
@[simp] theorem State.countTick_ackTimeout : (s.countTick).ackTimeout = s.ackTimeout := rfl
@[simp] theorem State.countTick_settleDelay : (s.countTick).settleDelay = s.settleDelay := rfl
@[simp] theorem State.countTick_cksAddr : (s.countTick).cksAddr = s.cksAddr := rfl
@[simp] theorem State.countTick_cksLen : (s.countTick).cksLen = s.cksLen := rfl
@[simp] theorem State.countTick_cksResult : (s.countTick).cksResult = s.cksResult := rfl
@[simp] theorem State.countTick_frameLen : (s.countTick).frameLen = s.frameLen := rfl
@[simp] theorem State.countTick_ie : (s.countTick).ie = s.ie := rfl
@[simp] theorem State.countTick_txCount : (s.countTick).txCount = s.txCount := rfl
@[simp] theorem State.countTick_pb : (s.countTick).pb = s.pb := rfl
@[simp] theorem State.countTick_fb : (s.countTick).fb = s.fb := rfl
@[simp] theorem State.countTick_out : (s.countTick).out = s.out := rfl
@[simp] theorem State.countTick_inputs : (s.countTick).inputs = s.inputs := rfl
@[simp] theorem State.countTick_params : (s.countTick).params = s.params := rfl
@[simp] theorem State.countTick_epoch : (s.countTick).epoch = s.epoch := rfl
@[simp] theorem State.countTick_latchAssigned : (s.countTick).latchAssigned = s.latchAssigned := rfl

@[simp] theorem State.countTick_input : (s.countTick).input = s.input := rfl
@[simp] theorem State.countTick_busy : (s.countTick).busy = s.busy := rfl
@[simp] theorem State.countTick_nchunk : (s.countTick).nchunk = s.nchunk := rfl
@[simp] theorem State.countTick_readPB (x : Nat) : (s.countTick).readPB x = s.readPB x := rfl
@[simp] theorem State.countTick_readFB (x : Nat) : (s.countTick).readFB x = s.readFB x := rfl
@[simp] theorem State.countTick_chunk (x : Nat) : (s.countTick).chunk x = s.chunk x := rfl

/-! ### State.beginCycle -/

@[simp] theorem State.beginCycle_st : (s.beginCycle).st = s.st := rfl
@[simp] theorem State.beginCycle_idx : (s.beginCycle).idx = s.idx := rfl
@[simp] theorem State.beginCycle_timer : (s.beginCycle).timer = s.timer := rfl
@[simp] theorem State.beginCycle_ackLatch : (s.beginCycle).ackLatch = s.ackLatch := rfl
@[simp] theorem State.beginCycle_subOk : (s.beginCycle).subOk = s.subOk := rfl
@[simp] theorem State.beginCycle_connUp : (s.beginCycle).connUp = s.connUp := rfl
@[simp] theorem State.beginCycle_err : (s.beginCycle).err = s.err := rfl
@[simp] theorem State.beginCycle_failState : (s.beginCycle).failState = s.failState := rfl
@[simp] theorem State.beginCycle_failIdx : (s.beginCycle).failIdx = s.failIdx := rfl
@[simp] theorem State.beginCycle_cmdErr : (s.beginCycle).cmdErr = s.cmdErr := rfl
@[simp] theorem State.beginCycle_payloadLen : (s.beginCycle).payloadLen = s.payloadLen := rfl
@[simp] theorem State.beginCycle_ackTimeout : (s.beginCycle).ackTimeout = s.ackTimeout := rfl
@[simp] theorem State.beginCycle_settleDelay : (s.beginCycle).settleDelay = s.settleDelay := rfl
@[simp] theorem State.beginCycle_cksAddr : (s.beginCycle).cksAddr = s.cksAddr := rfl
@[simp] theorem State.beginCycle_cksLen : (s.beginCycle).cksLen = s.cksLen := rfl
@[simp] theorem State.beginCycle_cksResult : (s.beginCycle).cksResult = s.cksResult := rfl
@[simp] theorem State.beginCycle_frameLen : (s.beginCycle).frameLen = s.frameLen := rfl
@[simp] theorem State.beginCycle_ie : (s.beginCycle).ie = s.ie := rfl
@[simp] theorem State.beginCycle_txCount : (s.beginCycle).txCount = s.txCount := rfl
@[simp] theorem State.beginCycle_pb : (s.beginCycle).pb = s.pb := rfl
@[simp] theorem State.beginCycle_fb : (s.beginCycle).fb = s.fb := rfl
@[simp] theorem State.beginCycle_out : (s.beginCycle).out = {} := rfl
@[simp] theorem State.beginCycle_inputs : (s.beginCycle).inputs = s.inputs := rfl
@[simp] theorem State.beginCycle_params : (s.beginCycle).params = s.params := rfl
@[simp] theorem State.beginCycle_epoch : (s.beginCycle).epoch = s.epoch := rfl
@[simp] theorem State.beginCycle_latchAssigned : (s.beginCycle).latchAssigned = false := rfl

@[simp] theorem State.beginCycle_input : (s.beginCycle).input = s.input := rfl
@[simp] theorem State.beginCycle_busy : (s.beginCycle).busy = s.busy := rfl
@[simp] theorem State.beginCycle_nchunk : (s.beginCycle).nchunk = s.nchunk := rfl
@[simp] theorem State.beginCycle_readPB (x : Nat) : (s.beginCycle).readPB x = s.readPB x := rfl
@[simp] theorem State.beginCycle_readFB (x : Nat) : (s.beginCycle).readFB x = s.readFB x := rfl
@[simp] theorem State.beginCycle_chunk (x : Nat) : (s.beginCycle).chunk x = s.chunk x := rfl

/-! ### State.endCycle -/

@[simp] theorem State.endCycle_st : (s.endCycle).st = s.st := rfl
@[simp] theorem State.endCycle_idx : (s.endCycle).idx = s.idx := rfl
@[simp] theorem State.endCycle_timer : (s.endCycle).timer = s.timer := rfl
@[simp] theorem State.endCycle_ackLatch :
    (s.endCycle).ackLatch = (if s.latchAssigned then s.ackLatch else s.ackLatch || s.input.ackIn) := rfl
@[simp] theorem State.endCycle_subOk : (s.endCycle).subOk = s.subOk := rfl
@[simp] theorem State.endCycle_connUp : (s.endCycle).connUp = s.connUp := rfl
@[simp] theorem State.endCycle_err : (s.endCycle).err = s.err := rfl
@[simp] theorem State.endCycle_failState : (s.endCycle).failState = s.failState := rfl
@[simp] theorem State.endCycle_failIdx : (s.endCycle).failIdx = s.failIdx := rfl
@[simp] theorem State.endCycle_cmdErr : (s.endCycle).cmdErr = s.cmdErr := rfl
@[simp] theorem State.endCycle_payloadLen : (s.endCycle).payloadLen = s.payloadLen := rfl
@[simp] theorem State.endCycle_ackTimeout : (s.endCycle).ackTimeout = s.ackTimeout := rfl
@[simp] theorem State.endCycle_settleDelay : (s.endCycle).settleDelay = s.settleDelay := rfl
@[simp] theorem State.endCycle_cksAddr : (s.endCycle).cksAddr = s.cksAddr := rfl
@[simp] theorem State.endCycle_cksLen : (s.endCycle).cksLen = s.cksLen := rfl
@[simp] theorem State.endCycle_cksResult : (s.endCycle).cksResult = s.cksResult := rfl
@[simp] theorem State.endCycle_frameLen : (s.endCycle).frameLen = s.frameLen := rfl
@[simp] theorem State.endCycle_ie : (s.endCycle).ie = s.ie := rfl
@[simp] theorem State.endCycle_txCount : (s.endCycle).txCount = s.txCount := rfl
@[simp] theorem State.endCycle_pb : (s.endCycle).pb = s.pb := rfl
@[simp] theorem State.endCycle_fb : (s.endCycle).fb = s.fb := rfl
@[simp] theorem State.endCycle_out : (s.endCycle).out = s.out := rfl
@[simp] theorem State.endCycle_inputs : (s.endCycle).inputs = s.inputs.tail := rfl
@[simp] theorem State.endCycle_params : (s.endCycle).params = s.params := rfl
@[simp] theorem State.endCycle_epoch : (s.endCycle).epoch = s.epoch := rfl
@[simp] theorem State.endCycle_latchAssigned : (s.endCycle).latchAssigned = false := rfl

@[simp] theorem State.endCycle_busy : (s.endCycle).busy = s.busy := rfl
@[simp] theorem State.endCycle_nchunk : (s.endCycle).nchunk = s.nchunk := rfl
@[simp] theorem State.endCycle_readPB (x : Nat) : (s.endCycle).readPB x = s.readPB x := rfl
@[simp] theorem State.endCycle_readFB (x : Nat) : (s.endCycle).readFB x = s.readFB x := rfl
@[simp] theorem State.endCycle_chunk (x : Nat) : (s.endCycle).chunk x = s.chunk x := rfl

end Sys2Proof.Machine
end

