-- ==== Sys2Proof/Laws/Ops.lean ====
section
/-! SUPPORT. What each shared operation over the state can do, said once: the failure and completion entries, the refusals
of a busy sequencer, the session's start and return, a frame's issue, a register write. -/

namespace Sys2Proof.Machine

/-! ### Composition -/

@[simp] theorem andThen_next (s : State) (f : State → Host.Outcome State Fault Refusal) : andThen (.next s) f = f s := rfl

@[simp] theorem thenMoveTo_next (s : State) (st : SeqState) : thenMoveTo (.next s) st = .next (s.moveTo st) := rfl

/-! ### Busy and stable -/

theorem State.busy_eq (s : State) : s.busy = !s.st.stable := rfl

theorem State.stable_cases (s : State) (h : s.busy = false) : s.st = .idle ∨ s.st = .completed ∨ s.st = .failed := by
  unfold State.busy at h
  cases hs : s.st <;> simp [hs, SeqState.stable] at h ⊢

theorem State.whenStable_of_busy (s t : State) (h : s.busy = true) : s.whenStable t = s.setCmdErr .badState := by
  simp [State.whenStable, h]

theorem State.whenStable_of_stable (s t : State) (h : s.busy = false) : s.whenStable t = t := by
  simp [State.whenStable, h]

theorem State.writeLocked_of_busy (s t : State) (h : s.busy = true) : s.writeLocked t = s.setCmdErr .badState := by
  simp [State.writeLocked, h]

theorem State.writeLocked_of_stable (s t : State) (h : s.busy = false) : s.writeLocked t = t.setCmdErr .ok := by
  simp [State.writeLocked, h]

/-! ### The failure entry (R116) and the completion entry (R117) -/

variable (s start : State) (code : FailCode)

@[simp] theorem State.raiseFail_st : (s.raiseFail start code).st = .failed := rfl

/-- Everything the failure entry writes, as one record. -/
theorem State.raiseFail_eq :
    s.raiseFail start code =
      { s with
        err := code
        failState := start.st
        failIdx := start.idx
        connUp := if start.connUp then false else s.connUp
        out := if start.connUp then { s.out with discReq := true } else s.out
        st := .failed } := by
  cases h : start.connUp <;> simp [State.raiseFail, State.release, State.moveTo, h]

@[simp] theorem State.raiseFail_err : (s.raiseFail start code).err = code := by simp [State.raiseFail_eq]
@[simp] theorem State.raiseFail_failState : (s.raiseFail start code).failState = start.st := by simp [State.raiseFail_eq]
@[simp] theorem State.raiseFail_failIdx : (s.raiseFail start code).failIdx = start.idx := by simp [State.raiseFail_eq]
@[simp] theorem State.raiseFail_idx : (s.raiseFail start code).idx = s.idx := by simp [State.raiseFail_eq]
@[simp] theorem State.raiseFail_timer : (s.raiseFail start code).timer = s.timer := by simp [State.raiseFail_eq]
@[simp] theorem State.raiseFail_ackLatch : (s.raiseFail start code).ackLatch = s.ackLatch := by simp [State.raiseFail_eq]
@[simp] theorem State.raiseFail_subOk : (s.raiseFail start code).subOk = s.subOk := by simp [State.raiseFail_eq]
@[simp] theorem State.raiseFail_connUp : (s.raiseFail start code).connUp = (s.connUp && !start.connUp) := by
  rw [State.raiseFail_eq]; cases start.connUp <;> simp
@[simp] theorem State.raiseFail_cmdErr : (s.raiseFail start code).cmdErr = s.cmdErr := by simp [State.raiseFail_eq]
@[simp] theorem State.raiseFail_payloadLen : (s.raiseFail start code).payloadLen = s.payloadLen := by
  simp [State.raiseFail_eq]
@[simp] theorem State.raiseFail_ackTimeout : (s.raiseFail start code).ackTimeout = s.ackTimeout := by
  simp [State.raiseFail_eq]
@[simp] theorem State.raiseFail_settleDelay : (s.raiseFail start code).settleDelay = s.settleDelay := by
  simp [State.raiseFail_eq]
@[simp] theorem State.raiseFail_cksAddr : (s.raiseFail start code).cksAddr = s.cksAddr := by simp [State.raiseFail_eq]
@[simp] theorem State.raiseFail_cksLen : (s.raiseFail start code).cksLen = s.cksLen := by simp [State.raiseFail_eq]
@[simp] theorem State.raiseFail_cksResult : (s.raiseFail start code).cksResult = s.cksResult := by
  simp [State.raiseFail_eq]
@[simp] theorem State.raiseFail_frameLen : (s.raiseFail start code).frameLen = s.frameLen := by simp [State.raiseFail_eq]
@[simp] theorem State.raiseFail_ie : (s.raiseFail start code).ie = s.ie := by simp [State.raiseFail_eq]
@[simp] theorem State.raiseFail_txCount : (s.raiseFail start code).txCount = s.txCount := by simp [State.raiseFail_eq]
@[simp] theorem State.raiseFail_pb : (s.raiseFail start code).pb = s.pb := by simp [State.raiseFail_eq]
@[simp] theorem State.raiseFail_fb : (s.raiseFail start code).fb = s.fb := by simp [State.raiseFail_eq]
theorem State.raiseFail_out :
    (s.raiseFail start code).out = if start.connUp then { s.out with discReq := true } else s.out := by
  simp [State.raiseFail_eq]
@[simp] theorem State.raiseFail_out_connReq : (s.raiseFail start code).out.connReq = s.out.connReq := by
  rw [State.raiseFail_out]; split <;> rfl
@[simp] theorem State.raiseFail_out_subReq0 : (s.raiseFail start code).out.subReq0 = s.out.subReq0 := by
  rw [State.raiseFail_out]; split <;> rfl
@[simp] theorem State.raiseFail_out_subReq1 : (s.raiseFail start code).out.subReq1 = s.out.subReq1 := by
  rw [State.raiseFail_out]; split <;> rfl
@[simp] theorem State.raiseFail_out_txReq : (s.raiseFail start code).out.txReq = s.out.txReq := by
  rw [State.raiseFail_out]; split <;> rfl
@[simp] theorem State.raiseFail_out_hrdata : (s.raiseFail start code).out.hrdata = s.out.hrdata := by
  rw [State.raiseFail_out]; split <;> rfl
@[simp] theorem State.raiseFail_out_discReq :
    (s.raiseFail start code).out.discReq = (s.out.discReq || start.connUp) := by
  rw [State.raiseFail_out]; cases start.connUp <;> simp
@[simp] theorem State.raiseFail_inputs : (s.raiseFail start code).inputs = s.inputs := by simp [State.raiseFail_eq]
@[simp] theorem State.raiseFail_input : (s.raiseFail start code).input = s.input := by simp [State.input]
@[simp] theorem State.raiseFail_params : (s.raiseFail start code).params = s.params := by simp [State.raiseFail_eq]
@[simp] theorem State.raiseFail_epoch : (s.raiseFail start code).epoch = s.epoch := by simp [State.raiseFail_eq]
@[simp] theorem State.raiseFail_latchAssigned : (s.raiseFail start code).latchAssigned = s.latchAssigned := by
  simp [State.raiseFail_eq]

theorem State.complete_eq :
    s.complete = { s with connUp := false, out := { s.out with discReq := true }, st := .completed } := rfl

theorem State.clearSession_eq :
    s.clearSession =
      { s with
        st := .idle, idx := 0, timer := 0, ackLatch := false, subOk := 0, txCount := 0, err := .none, failState := .idle,
        failIdx := 0, cmdErr := .ok, latchAssigned := true } := rfl

theorem State.zeroSession_eq :
    s.zeroSession =
      { s with
        idx := 0, timer := 0, ackLatch := false, subOk := 0, txCount := 0, err := .none, failState := .idle,
        failIdx := 0, latchAssigned := true } := rfl

/-- START in IDLE takes one of three ways (R89). -/
theorem State.beginSession_cases :
    (s.payloadLen.toNat = 0 ∧ s.beginSession = ((s.setCmdErr .ok).zeroSession).raiseFail s .invalidFormat) ∨
      (s.payloadLen.toNat ≠ 0 ∧ 255 < s.nchunk.toNat ∧
        s.beginSession = ((s.setCmdErr .ok).zeroSession).raiseFail s .payloadTooLarge) ∨
      (s.payloadLen.toNat ≠ 0 ∧ s.nchunk.toNat ≤ 255 ∧
        s.beginSession = (((s.setCmdErr .ok).zeroSession).emitConnect).moveTo .connecting) := by
  unfold State.beginSession
  by_cases h0 : s.payloadLen.toNat = 0
  · simp [h0]
  · by_cases h1 : 255 < s.nchunk.toNat
    · simp [h0, h1]
    · have h2 : s.nchunk.toNat ≤ 255 := by omega
      simp [h0, h1, h2]

/-! ### Operands -/

theorem inRange_iff (i : Byte) (n : BitVec 9) : inRange i n = true ↔ n.toNat ≤ 255 ∧ i.toNat < n.toNat := by
  simp [inRange]

/-- R82: N fits its 9 bits, so NCHUNK holds the exact count. -/
theorem State.nchunk_toNat : s.nchunk.toNat = (s.payloadLen.toNat + 195) / 196 := by
  have := s.payloadLen.isLt
  simp only [State.nchunk, chunkCount, BitVec.toNat_ofNat]
  omega

theorem State.chunk_toList (i : Nat) : (s.chunk i).toList = (List.range 196).map fun k => s.chunkByte i k := by
  simp [State.chunk]

end Sys2Proof.Machine
end

