-- ==== Sys2Proof/Laws/Sequencer.lean ====
section
/-! SUPPORT. What each state rule of the sequencer answers, as one equation, and that every rule answers a next state. -/

namespace Sys2Proof.Machine

variable (s : State)

theorem ruleConnected_eq :
    ruleConnected s = .next ((s.issue .reset1 s.params.reset1 s.params.writeRespCtrl).moveTo .resetWr1) := rfl

theorem ruleResetSettle_eq :
    ruleResetSettle s =
      .next
        (if s.input.tick then
          if s.settleDelay.toNat ≤ s.timer.toNat + 1 then
            (s.countTick.issue .reset2 s.params.reset2 s.params.writeRespCtrl).moveTo .resetWr2
          else s.countTick
        else s) := by
  unfold ruleResetSettle State.expires
  by_cases h : s.input.tick <;> by_cases h2 : s.settleDelay.toNat ≤ s.timer.toNat + 1 <;> simp [h, h2, execReset2]

theorem ruleXferSend_eq :
    ruleXferSend s =
      .next
        (if inRange s.idx s.nchunk then (s.issueData s.idx s.nchunk (s.chunk s.idx.toNat)).moveTo .xferWr
        else s.raiseFail s .indexOutOfRange) := by
  unfold ruleXferSend execData
  by_cases h : inRange s.idx s.nchunk <;> simp [h]

theorem ruleXferWait_eq :
    ruleXferWait s =
      .next
        (if s.ackLatch || s.input.ackIn then
          if s.idx.toNat + 1 = s.nchunk.toNat then
            (s.issue .finalize s.params.finalize s.params.writeRespCtrl).moveTo .finWr1
          else { s with idx := s.idx + 1 }.moveTo .xferSend
        else if s.input.tick then
          if s.ackTimeout.toNat ≤ s.timer.toNat + 1 then s.countTick.raiseFail s .ackTimeout else s.countTick
        else s) := by
  unfold ruleXferWait State.acked State.expires
  by_cases h : (s.ackLatch || s.input.ackIn) = true <;> by_cases h2 : s.idx.toNat + 1 = s.nchunk.toNat <;>
    by_cases h3 : s.input.tick <;> by_cases h4 : s.ackTimeout.toNat ≤ s.timer.toNat + 1 <;>
    simp [h, h2, h3, h4, execFinalize]

theorem ruleSubscribing_eq :
    ruleSubscribing s =
      .next
        (if s.subFails then s.raiseFail s .subscriptionError
        else if s.subOkNext = 0b11#2 then { s with subOk := s.subOkNext }.moveTo .connected
        else { s with subOk := s.subOkNext }) := by
  unfold ruleSubscribing
  by_cases h : s.subFails <;> simp [h]

theorem ruleConnecting_eq :
    ruleConnecting s =
      .next
        (match s.input.connRsp with
        | .ok => { s with connUp := true }.emitSubscribe.moveTo .subscribing
        | .err => s.raiseFail s .connectionError
        | .none => s) := by
  unfold ruleConnecting; cases s.input.connRsp <;> rfl

theorem ruleResetWr1_eq :
    ruleResetWr1 s =
      .next
        (match s.input.txDone with
        | .ok => { s with timer := 0 }.moveTo .resetSettle
        | .err => s.raiseFail s .transportWriteError
        | .none => s) := by
  unfold ruleResetWr1; cases s.input.txDone <;> rfl

theorem ruleResetWr2_eq :
    ruleResetWr2 s =
      .next
        (match s.input.txDone with
        | .ok => { s with idx := 0 }.moveTo .xferSend
        | .err => s.raiseFail s .transportWriteError
        | .none => s) := by
  unfold ruleResetWr2; cases s.input.txDone <;> rfl

theorem ruleXferWr_eq :
    ruleXferWr s =
      .next
        (match s.input.txDone with
        | .ok => { s with timer := 0 }.moveTo .xferWait
        | .err => s.raiseFail s .transportWriteError
        | .none => s) := by
  unfold ruleXferWr; cases s.input.txDone <;> rfl

theorem ruleFinWr1_eq :
    ruleFinWr1 s =
      .next
        (match s.input.txDone with
        | .ok => (s.issue .finalize s.params.finalize s.params.writeRespCtrl).moveTo .finWr2
        | .err => s.raiseFail s .transportWriteError
        | .none => s) := by
  unfold ruleFinWr1; cases s.input.txDone <;> rfl

theorem ruleFinWr2_eq :
    ruleFinWr2 s =
      .next
        (match s.input.txDone with
        | .ok => s.complete
        | .err => s.raiseFail s .transportWriteError
        | .none => s) := by
  unfold ruleFinWr2; cases s.input.txDone <;> rfl

/-- Every rule answers a next state. -/
theorem sequencerRule_next (st : SeqState) : ∃ u, sequencerRule st s = .next u := by
  cases st <;>
    simp [sequencerRule, ruleConnecting_eq, ruleSubscribing_eq, ruleConnected_eq, ruleResetWr1_eq, ruleResetSettle_eq,
      ruleResetWr2_eq, ruleXferSend_eq, ruleXferWr_eq, ruleXferWait_eq, ruleFinWr1_eq, ruleFinWr2_eq]

end Sys2Proof.Machine
end

