-- ==== Sys2Proof/Laws/Step.lean ====
section
/-! SUPPORT. What the host's operation and a whole step can do, said once: the shape of a next state of the host's part,
and the two ways a step goes. -/

namespace Sys2Proof.Machine

open Sys2Proof.Safety

/-- The instructions the host can put on `hop`: all but the wire frames. -/
def hostInstr (i : Instr) : Bool :=
  match i with
  | .nop => true
  | .start => true
  | .clear => true
  | .encode _ => true
  | .cksum => true
  | .rd _ => true
  | .wr _ _ => true
  | .rdb _ => true
  | .wrb _ _ => true
  | .rdf _ => true
  | .data _ _ _ => false
  | .reset1 => false
  | .reset2 => false
  | .finalize => false

theorem Command.toInstr_host (c : Command) : hostInstr c.toInstr = true := by cases c <;> rfl

/-- Only a host instruction comes from `hop`. -/
theorem State.fetched_host (s : State) (i : Instr) (h : s.fetched = some i) : hostInstr i = true := by
  unfold State.fetched at h
  cases hop : s.input.hop with
  | none => simp [hop, decodeBus] at h
  | rd off => simp [hop, decodeBus] at h; subst h; rfl
  | wr off d =>
    by_cases h0 : off = 0#8
    · subst h0
      cases hd : decodeCommand d with
      | none => simp [hop, decodeBus, hd] at h; subst h; rfl
      | some c => simp [hop, decodeBus, hd] at h; subst h; exact Command.toInstr_host c
    · simp [hop, decodeBus, h0] at h; subst h; rfl
  | rdb a => simp [hop, decodeBus] at h; subst h; rfl
  | wrb a b => simp [hop, decodeBus] at h; subst h; rfl
  | rdf k => simp [hop, decodeBus] at h; subst h; rfl

/-- The fields a host operation may write while the sequencer is busy: CMD_ERR, CKS_ADDR, CKS_LEN, IE and `hrdata`. -/
def State.hostWrites (s : State) (c : CmdErr) (a l : Half) (e : Bool) (r : Option Word) : State :=
  { s with cmdErr := c, cksAddr := a, cksLen := l, ie := e, out := { s.out with hrdata := r } }

@[simp] theorem State.hostWrites_st (s : State) (c : CmdErr) (a l : Half) (e : Bool) (r : Option Word) :
    (s.hostWrites c a l e r).st = s.st := rfl
@[simp] theorem State.hostWrites_idx (s : State) (c : CmdErr) (a l : Half) (e : Bool) (r : Option Word) :
    (s.hostWrites c a l e r).idx = s.idx := rfl
@[simp] theorem State.hostWrites_timer (s : State) (c : CmdErr) (a l : Half) (e : Bool) (r : Option Word) :
    (s.hostWrites c a l e r).timer = s.timer := rfl
@[simp] theorem State.hostWrites_ackLatch (s : State) (c : CmdErr) (a l : Half) (e : Bool) (r : Option Word) :
    (s.hostWrites c a l e r).ackLatch = s.ackLatch := rfl
@[simp] theorem State.hostWrites_subOk (s : State) (c : CmdErr) (a l : Half) (e : Bool) (r : Option Word) :
    (s.hostWrites c a l e r).subOk = s.subOk := rfl
@[simp] theorem State.hostWrites_connUp (s : State) (c : CmdErr) (a l : Half) (e : Bool) (r : Option Word) :
    (s.hostWrites c a l e r).connUp = s.connUp := rfl
@[simp] theorem State.hostWrites_err (s : State) (c : CmdErr) (a l : Half) (e : Bool) (r : Option Word) :
    (s.hostWrites c a l e r).err = s.err := rfl
@[simp] theorem State.hostWrites_failState (s : State) (c : CmdErr) (a l : Half) (e : Bool) (r : Option Word) :
    (s.hostWrites c a l e r).failState = s.failState := rfl
@[simp] theorem State.hostWrites_failIdx (s : State) (c : CmdErr) (a l : Half) (e : Bool) (r : Option Word) :
    (s.hostWrites c a l e r).failIdx = s.failIdx := rfl
@[simp] theorem State.hostWrites_payloadLen (s : State) (c : CmdErr) (a l : Half) (e : Bool) (r : Option Word) :
    (s.hostWrites c a l e r).payloadLen = s.payloadLen := rfl
@[simp] theorem State.hostWrites_ackTimeout (s : State) (c : CmdErr) (a l : Half) (e : Bool) (r : Option Word) :
    (s.hostWrites c a l e r).ackTimeout = s.ackTimeout := rfl
@[simp] theorem State.hostWrites_settleDelay (s : State) (c : CmdErr) (a l : Half) (e : Bool) (r : Option Word) :
    (s.hostWrites c a l e r).settleDelay = s.settleDelay := rfl
@[simp] theorem State.hostWrites_cksResult (s : State) (c : CmdErr) (a l : Half) (e : Bool) (r : Option Word) :
    (s.hostWrites c a l e r).cksResult = s.cksResult := rfl
@[simp] theorem State.hostWrites_frameLen (s : State) (c : CmdErr) (a l : Half) (e : Bool) (r : Option Word) :
    (s.hostWrites c a l e r).frameLen = s.frameLen := rfl
@[simp] theorem State.hostWrites_txCount (s : State) (c : CmdErr) (a l : Half) (e : Bool) (r : Option Word) :
    (s.hostWrites c a l e r).txCount = s.txCount := rfl
@[simp] theorem State.hostWrites_pb (s : State) (c : CmdErr) (a l : Half) (e : Bool) (r : Option Word) :
    (s.hostWrites c a l e r).pb = s.pb := rfl
@[simp] theorem State.hostWrites_fb (s : State) (c : CmdErr) (a l : Half) (e : Bool) (r : Option Word) :
    (s.hostWrites c a l e r).fb = s.fb := rfl
@[simp] theorem State.hostWrites_inputs (s : State) (c : CmdErr) (a l : Half) (e : Bool) (r : Option Word) :
    (s.hostWrites c a l e r).inputs = s.inputs := rfl
@[simp] theorem State.hostWrites_params (s : State) (c : CmdErr) (a l : Half) (e : Bool) (r : Option Word) :
    (s.hostWrites c a l e r).params = s.params := rfl
@[simp] theorem State.hostWrites_epoch (s : State) (c : CmdErr) (a l : Half) (e : Bool) (r : Option Word) :
    (s.hostWrites c a l e r).epoch = s.epoch := rfl
@[simp] theorem State.hostWrites_latchAssigned (s : State) (c : CmdErr) (a l : Half) (e : Bool) (r : Option Word) :
    (s.hostWrites c a l e r).latchAssigned = s.latchAssigned := rfl
@[simp] theorem State.hostWrites_input (s : State) (c : CmdErr) (a l : Half) (e : Bool) (r : Option Word) :
    (s.hostWrites c a l e r).input = s.input := rfl
@[simp] theorem State.hostWrites_busy (s : State) (c : CmdErr) (a l : Half) (e : Bool) (r : Option Word) :
    (s.hostWrites c a l e r).busy = s.busy := rfl
@[simp] theorem State.hostWrites_nchunk (s : State) (c : CmdErr) (a l : Half) (e : Bool) (r : Option Word) :
    (s.hostWrites c a l e r).nchunk = s.nchunk := rfl
@[simp] theorem State.hostWrites_chunk (s : State) (c : CmdErr) (a l : Half) (e : Bool) (r : Option Word) (i : Nat) :
    (s.hostWrites c a l e r).chunk i = s.chunk i := rfl
@[simp] theorem State.hostWrites_out (s : State) (c : CmdErr) (a l : Half) (e : Bool) (r : Option Word) :
    (s.hostWrites c a l e r).out = { s.out with hrdata := r } := rfl

/-- The failure entry reads STATE, IDX and CONN_UP of the state at the start of the cycle, and nothing else of it. -/
theorem State.raiseFail_start (s a b : State) (code : FailCode) (h1 : a.st = b.st) (h2 : a.idx = b.idx)
    (h3 : a.connUp = b.connUp) : s.raiseFail a code = s.raiseFail b code := by
  simp [State.raiseFail_eq, h1, h2, h3]

/-- So it is the same read before the host's operation of a busy cycle or after it. -/
theorem State.raiseFail_hostWrites (s u : State) (code : FailCode) (c : CmdErr) (a l : Half) (e : Bool) (r : Option Word) :
    u.raiseFail (s.beginCycle.hostWrites c a l e r) code = u.raiseFail s code :=
  State.raiseFail_start _ _ _ _ rfl rfl rfl

/-- While busy, a command is refused. -/
theorem runCommand_busy (s : State) (h : s.busy = true) (c : Command) :
    runCommand c s = .next (s.setCmdErr .badState) := by
  cases c <;>
    simp [runCommand, execNop, execStart, execClear, execEncode, execCksum, State.whenStable_of_busy, h]

/-- While busy, a host instruction writes only what `hostWrites` names. -/
theorem exec_busy (s : State) (h : s.busy = true) (i : Instr) (hi : hostInstr i = true) :
    ∃ c a l e r, exec i s = .next (s.hostWrites c a l e r) := by
  have hc : ∀ c, s.setCmdErr c = s.hostWrites c s.cksAddr s.cksLen s.ie s.out.hrdata := fun _ => rfl
  have hd : ∀ w, s.driveRead w = s.hostWrites s.cmdErr s.cksAddr s.cksLen s.ie (some w) := fun _ => rfl
  cases i with
  | nop => exact ⟨_, _, _, _, _, by rw [← hc]; exact runCommand_busy s h .nop⟩
  | start => exact ⟨_, _, _, _, _, by rw [← hc]; exact runCommand_busy s h .start⟩
  | clear => exact ⟨_, _, _, _, _, by rw [← hc]; exact runCommand_busy s h .clear⟩
  | encode arg => exact ⟨_, _, _, _, _, by rw [← hc]; exact runCommand_busy s h (.encode arg)⟩
  | cksum => exact ⟨_, _, _, _, _, by rw [← hc]; exact runCommand_busy s h .cksum⟩
  | rd off => exact ⟨_, _, _, _, _, by rw [← hd]; rfl⟩
  | rdb a => exact ⟨_, _, _, _, _, by rw [← hd]; rfl⟩
  | rdf k => exact ⟨_, _, _, _, _, by rw [← hd]; rfl⟩
  | wrb a b =>
    by_cases ha : 49980 ≤ a.toNat
    · exact ⟨_, _, _, _, _, by rw [← hc]; simp [exec, execWrb, ha]; rfl⟩
    · exact ⟨_, _, _, _, _, by rw [← hc]; simp [exec, execWrb, ha, h]; rfl⟩
  | wr off d =>
    cases hr : regAt off with
    | none => exact ⟨_, _, _, _, _, by rw [← hc]; simp [exec, execWr, hr]; rfl⟩
    | some r =>
      cases r with
      | cmd =>
        cases hd' : decodeCommand d with
        | none => exact ⟨_, _, _, _, _, by rw [← hc]; simp [exec, execWr, hr, writeCmd, hd']; rfl⟩
        | some c => exact ⟨_, _, _, _, _, by rw [← hc]; simp [exec, execWr, hr, writeCmd, hd', runCommand_busy s h]; rfl⟩
      | cksAddr =>
        exact ⟨.ok, d.setWidth 16, s.cksLen, s.ie, s.out.hrdata, by simp [exec, execWr, hr]; rfl⟩
      | cksLen =>
        exact ⟨.ok, s.cksAddr, d.setWidth 16, s.ie, s.out.hrdata, by simp [exec, execWr, hr]; rfl⟩
      | intCtrl =>
        exact ⟨.ok, s.cksAddr, s.cksLen, d.getLsbD 0, s.out.hrdata, by simp [exec, execWr, hr]; rfl⟩
      | payloadLen =>
        exact ⟨_, _, _, _, _, by rw [← hc]; simp [exec, execWr, hr, State.writeLocked_of_busy, h]; rfl⟩
      | ackTimeout =>
        exact ⟨_, _, _, _, _, by rw [← hc]; simp [exec, execWr, hr, State.writeLocked_of_busy, h]; rfl⟩
      | settleDelay =>
        exact ⟨_, _, _, _, _, by rw [← hc]; simp [exec, execWr, hr, State.writeLocked_of_busy, h]; rfl⟩
      | status => exact ⟨_, _, _, _, _, by rw [← hc]; simp [exec, execWr, hr]; rfl⟩
      | error => exact ⟨_, _, _, _, _, by rw [← hc]; simp [exec, execWr, hr]; rfl⟩
      | nchunk => exact ⟨_, _, _, _, _, by rw [← hc]; simp [exec, execWr, hr]; rfl⟩
      | timer => exact ⟨_, _, _, _, _, by rw [← hc]; simp [exec, execWr, hr]; rfl⟩
      | cksResult => exact ⟨_, _, _, _, _, by rw [← hc]; simp [exec, execWr, hr]; rfl⟩
      | frameLen => exact ⟨_, _, _, _, _, by rw [← hc]; simp [exec, execWr, hr]; rfl⟩
      | txCount => exact ⟨_, _, _, _, _, by rw [← hc]; simp [exec, execWr, hr]; rfl⟩
  | data i n c => simp [hostInstr] at hi
  | reset1 => simp [hostInstr] at hi
  | reset2 => simp [hostInstr] at hi
  | finalize => simp [hostInstr] at hi

/-- While busy, the host's part of a cycle writes only what `hostWrites` names. -/
theorem hostPart_busy (s u : State) (h : s.busy = true) (hu : hostPart s = .next u) :
    ∃ c a l e r, u = s.beginCycle.hostWrites c a l e r := by
  unfold hostPart at hu
  cases hf : s.fetched with
  | none =>
    simp only [hf] at hu
    cases hu
    exact ⟨s.cmdErr, s.cksAddr, s.cksLen, s.ie, none, rfl⟩
  | some i =>
    simp only [hf] at hu
    obtain ⟨c, a, l, e, r, he⟩ := exec_busy s.beginCycle (by simpa using h) i (s.fetched_host i hf)
    rw [he] at hu
    cases hu
    exact ⟨c, a, l, e, r, rfl⟩

/-- A step is a reset cycle, or the host's part, the sequencer's rule and the end of the cycle. -/
theorem step_cases (s t : State) (h : step s = .next t) :
    (s.input.rst = true ∧ t = s.resetCycle) ∨
      (s.input.rst = false ∧
        ∃ u v, hostPart s = .next u ∧ sequencerRule s.st u = .next v ∧ t = v.endCycle) := by
  unfold step at h
  cases hr : s.input.rst with
  | true => simp [hr] at h; exact .inl ⟨rfl, h.symm⟩
  | false =>
    right
    simp only [hr, Bool.false_eq_true, ↓reduceIte, finishCycle] at h
    change andThen (hostPart s) _ = _ at h
    cases hu : hostPart s with
    | next u =>
      obtain ⟨v, hv⟩ := sequencerRule_next u s.st
      refine ⟨rfl, u, v, rfl, hv, ?_⟩
      simp [hu, hv] at h
      exact h.symm
    | fault r => cases r
    | refused r => simp [hu, andThen] at h

/-- A cycle without reset goes through its parts. -/
theorem step_of_parts (s u v : State) (hr : s.input.rst = false) (hu : hostPart s = .next u)
    (hv : sequencerRule s.st u = .next v) : step s = .next v.endCycle := by
  unfold step
  simp only [hr, Bool.false_eq_true, ↓reduceIte, finishCycle]
  change andThen (hostPart s) _ = _
  simp [hu, hv]

end Sys2Proof.Machine
end

