-- ==== Sys2Proof/Laws/Host.lean ====
section
/-! SUPPORT. What the host's operation can do in a stable state: it is one of the five commands, or it writes only host
registers, a payload byte and `hrdata`. -/

namespace Sys2Proof.Machine

open Sys2Proof.Safety

/-- The command an instruction runs, if any. -/
def commandOf (i : Instr) : Option Command :=
  match i with
  | .nop => some .nop
  | .start => some .start
  | .clear => some .clear
  | .encode arg => some (.encode arg)
  | .cksum => some .cksum
  | .rd _ => none
  | .wr off d => if off = 0x00#8 then decodeCommand d else none
  | .rdb _ => none
  | .wrb _ _ => none
  | .rdf _ => none
  | .data _ _ _ => none
  | .reset1 => none
  | .reset2 => none
  | .finalize => none

theorem commandOf_toInstr (c : Command) : commandOf c.toInstr = some c := by cases c <;> rfl

/-- Writing `w` to CMD is what runs a command. -/
theorem State.fetched_command (s : State) (i : Instr) (c : Command) (hf : s.fetched = some i)
    (hc : commandOf i = some c) : ∃ w, s.input.hop = .wr 0x00#8 w ∧ decodeCommand w = some c := by
  unfold State.fetched at hf
  cases hop : s.input.hop with
  | none => simp [hop, decodeBus] at hf
  | rd off => simp [hop, decodeBus] at hf; subst hf; simp [commandOf] at hc
  | rdb off => simp [hop, decodeBus] at hf; subst hf; simp [commandOf] at hc
  | wrb a b => simp [hop, decodeBus] at hf; subst hf; simp [commandOf] at hc
  | rdf off => simp [hop, decodeBus] at hf; subst hf; simp [commandOf] at hc
  | wr off d =>
    by_cases h0 : off = 0#8
    · subst h0
      cases hd : decodeCommand d with
      | none => simp [hop, decodeBus, hd] at hf; subst hf; simp [commandOf, hd] at hc
      | some c' =>
        simp [hop, decodeBus, hd] at hf; subst hf
        rw [commandOf_toInstr] at hc
        cases hc
        exact ⟨d, rfl, hd⟩
    · simp [hop, decodeBus, h0] at hf; subst hf; simp [commandOf, h0] at hc

/-- CMD is the register at offset 0x00 only. -/
theorem regAt_cmd (off : Byte) (h : regAt off = some .cmd) : off = 0#8 := by
  revert off; decide

theorem decodeCommand_start (w : Word) (h : decodeCommand w = some .start) : w = 1#32 := by
  rw [decodeCommand_eq] at h
  by_contra hw
  simp only [hw, ↓reduceIte] at h
  split at h
  · simp at h
  split at h
  · simp at h
  split at h
  · simp at h
  split at h <;> simp at h

theorem decodeCommand_clear (w : Word) (h : decodeCommand w = some .clear) : w = 2#32 := by
  rw [decodeCommand_eq] at h
  by_contra hw
  simp only [hw, ↓reduceIte] at h
  split at h
  · simp at h
  split at h
  · simp at h
  split at h
  · simp at h
  split at h <;> simp at h

theorem exec_command (i : Instr) (c : Command) (s : State) (h : commandOf i = some c) : exec i s = runCommand c s := by
  cases i <;> simp [commandOf] at h <;> try (subst h; rfl)
  rename_i off d
  obtain ⟨rfl, hd⟩ := h
  have : regAt 0#8 = some .cmd := by decide
  simp [exec, execWr, this, writeCmd, hd]

/-- The fields a host operation that is no command may write. -/
def State.plainWrites (s : State) (c : CmdErr) (len ta sd a l : Half) (e : Bool) (m : Memory) (r : Option Word) : State :=
  { s with
    cmdErr := c, payloadLen := len, ackTimeout := ta, settleDelay := sd, cksAddr := a, cksLen := l, ie := e, pb := m
    out := { s.out with hrdata := r } }

/-- A host operation that is no command writes only what `plainWrites` names, and keeps PB canonical. -/
theorem exec_plain (i : Instr) (s : State) (hi : hostInstr i = true) (hc : commandOf i = none) :
    ∃ c len ta sd a l e m r, exec i s = .next (s.plainWrites c len ta sd a l e m r) ∧
      (Memory.wf Config.payloadMax s.pb = true → Memory.wf Config.payloadMax m = true) := by
  have he : ∀ c, s.setCmdErr c =
      s.plainWrites c s.payloadLen s.ackTimeout s.settleDelay s.cksAddr s.cksLen s.ie s.pb s.out.hrdata := fun _ => rfl
  have hd : ∀ w, s.driveRead w =
      s.plainWrites s.cmdErr s.payloadLen s.ackTimeout s.settleDelay s.cksAddr s.cksLen s.ie s.pb (some w) := fun _ => rfl
  have E : ∀ c, exec i s = .next (s.setCmdErr c) →
      ∃ c len ta sd a l e m r, exec i s = .next (s.plainWrites c len ta sd a l e m r) ∧
        (Memory.wf Config.payloadMax s.pb = true → Memory.wf Config.payloadMax m = true) :=
    fun c h => ⟨_, _, _, _, _, _, _, _, _, by rw [h, he], fun h => h⟩
  have D : ∀ w, exec i s = .next (s.driveRead w) →
      ∃ c len ta sd a l e m r, exec i s = .next (s.plainWrites c len ta sd a l e m r) ∧
        (Memory.wf Config.payloadMax s.pb = true → Memory.wf Config.payloadMax m = true) :=
    fun c h => ⟨_, _, _, _, _, _, _, _, _, by rw [h, hd], fun h => h⟩
  cases i with
  | nop => simp [commandOf] at hc
  | start => simp [commandOf] at hc
  | clear => simp [commandOf] at hc
  | encode arg => simp [commandOf] at hc
  | cksum => simp [commandOf] at hc
  | rd off => exact D _ rfl
  | rdb a => exact D _ rfl
  | rdf k => exact D _ rfl
  | wrb a b =>
    by_cases ha : 49980 ≤ a.toNat
    · exact E .range (by simp [exec, execWrb, ha])
    · cases hb : s.busy with
      | true => exact E .badState (by simp [exec, execWrb, ha, hb])
      | false =>
        refine ⟨.ok, s.payloadLen, s.ackTimeout, s.settleDelay, s.cksAddr, s.cksLen, s.ie,
          Memory.write s.pb a.toNat b, s.out.hrdata, ?_, ?_⟩
        · simp [exec, execWrb, ha, hb]; rfl
        · intro h; exact Memory.wf_write _ _ _ _ h (by simp only [Config.payloadMax]; omega)
  | wr off d =>
    cases hr : regAt off with
    | none => exact E .badAddr (by simp [exec, execWr, hr])
    | some q =>
      cases q with
      | cmd =>
        have h0 : off = 0#8 := regAt_cmd off hr
        simp [commandOf, h0] at hc
        exact E .badOpcode (by simp [exec, execWr, hr, writeCmd, hc])
      | cksAddr =>
        exact ⟨.ok, s.payloadLen, s.ackTimeout, s.settleDelay, d.setWidth 16, s.cksLen, s.ie, s.pb, s.out.hrdata,
          by simp [exec, execWr, hr]; rfl, fun h => h⟩
      | cksLen =>
        exact ⟨.ok, s.payloadLen, s.ackTimeout, s.settleDelay, s.cksAddr, d.setWidth 16, s.ie, s.pb, s.out.hrdata,
          by simp [exec, execWr, hr]; rfl, fun h => h⟩
      | intCtrl =>
        exact ⟨.ok, s.payloadLen, s.ackTimeout, s.settleDelay, s.cksAddr, s.cksLen, d.getLsbD 0, s.pb, s.out.hrdata,
          by simp [exec, execWr, hr]; rfl, fun h => h⟩
      | payloadLen =>
        cases hb : s.busy with
        | true => exact E .badState (by simp [exec, execWr, hr, State.writeLocked, hb])
        | false =>
          exact ⟨.ok, d.setWidth 16, s.ackTimeout, s.settleDelay, s.cksAddr, s.cksLen, s.ie, s.pb, s.out.hrdata,
            by simp [exec, execWr, hr, State.writeLocked, hb]; rfl, fun h => h⟩
      | ackTimeout =>
        cases hb : s.busy with
        | true => exact E .badState (by simp [exec, execWr, hr, State.writeLocked, hb])
        | false =>
          exact ⟨.ok, s.payloadLen, d.setWidth 16, s.settleDelay, s.cksAddr, s.cksLen, s.ie, s.pb, s.out.hrdata,
            by simp [exec, execWr, hr, State.writeLocked, hb]; rfl, fun h => h⟩
      | settleDelay =>
        cases hb : s.busy with
        | true => exact E .badState (by simp [exec, execWr, hr, State.writeLocked, hb])
        | false =>
          exact ⟨.ok, s.payloadLen, s.ackTimeout, d.setWidth 16, s.cksAddr, s.cksLen, s.ie, s.pb, s.out.hrdata,
            by simp [exec, execWr, hr, State.writeLocked, hb]; rfl, fun h => h⟩
      | status => exact E .badAddr (by simp [exec, execWr, hr])
      | error => exact E .badAddr (by simp [exec, execWr, hr])
      | nchunk => exact E .badAddr (by simp [exec, execWr, hr])
      | timer => exact E .badAddr (by simp [exec, execWr, hr])
      | cksResult => exact E .badAddr (by simp [exec, execWr, hr])
      | frameLen => exact E .badAddr (by simp [exec, execWr, hr])
      | txCount => exact E .badAddr (by simp [exec, execWr, hr])
  | data i n c => simp [hostInstr] at hi
  | reset1 => simp [hostInstr] at hi
  | reset2 => simp [hostInstr] at hi
  | finalize => simp [hostInstr] at hi

/-- The host's part of a cycle that starts in a stable state: plain writes, or one of the five commands. -/
theorem hostPart_stable (s u : State) (h : s.busy = false) (hu : hostPart s = .next u) :
    (∃ c len ta sd a l e m r, u = s.beginCycle.plainWrites c len ta sd a l e m r ∧
      (Memory.wf Config.payloadMax s.pb = true → Memory.wf Config.payloadMax m = true)) ∨
    (∃ arg, inRange arg s.nchunk = true ∧
      u = ((s.beginCycle.storeDataFrame arg s.nchunk (s.chunk arg.toNat)).setCmdErr .ok)) ∨
    (∃ q, u = { s.beginCycle with cksResult := q }.setCmdErr .ok) ∨
    (s.st = .idle ∧ s.input.hop = .wr 0x00#8 0x00000001#32 ∧ u = s.beginCycle.beginSession) ∨
    (s.input.hop = .wr 0x00#8 0x00000002#32 ∧ u = s.beginCycle.clearSession) := by
  have E : ∀ c, u = s.beginCycle.setCmdErr c → (∃ c len ta sd a l e m r, u = s.beginCycle.plainWrites c len ta sd a l e m r ∧
      (Memory.wf Config.payloadMax s.pb = true → Memory.wf Config.payloadMax m = true)) :=
    fun c hc => ⟨c, s.payloadLen, s.ackTimeout, s.settleDelay, s.cksAddr, s.cksLen, s.ie, s.pb, none, hc, fun h => h⟩
  have hb : s.beginCycle.busy = false := by simpa using h
  unfold hostPart at hu
  cases hf : s.fetched with
  | none =>
    simp only [hf, Host.Outcome.next.injEq] at hu
    exact .inl (E s.cmdErr hu.symm)
  | some i =>
    simp only [hf] at hu
    cases hc : commandOf i with
    | none =>
      obtain ⟨c, len, ta, sd, a, l, e, m, r, he, hm⟩ := exec_plain i s.beginCycle (s.fetched_host i hf) hc
      rw [he] at hu
      cases hu
      exact .inl ⟨_, _, _, _, _, _, _, _, _, rfl, hm⟩
    | some c =>
      rw [exec_command i c _ hc] at hu
      obtain ⟨w, hw, hd⟩ := s.fetched_command i c hf hc
      cases c with
      | nop =>
        simp [runCommand, execNop, State.whenStable_of_stable _ _ hb] at hu
        exact .inl (E _ hu.symm)
      | start =>
        simp only [runCommand, execStart, State.whenStable_of_stable _ _ hb, Host.Outcome.next.injEq] at hu
        by_cases hs : s.st = .idle
        · rw [if_pos (by simpa using hs)] at hu
          refine .inr (.inr (.inr (.inl ⟨hs, ?_, hu.symm⟩)))
          rw [hw, decodeCommand_start w hd]
        · rw [if_neg (by simpa using hs)] at hu
          exact .inl (E _ hu.symm)
      | clear =>
        simp only [runCommand, execClear, State.whenStable_of_stable _ _ hb, Host.Outcome.next.injEq] at hu
        refine .inr (.inr (.inr (.inr ⟨?_, hu.symm⟩)))
        rw [hw, decodeCommand_clear w hd]
      | encode arg =>
        simp only [runCommand, execEncode, State.whenStable_of_stable _ _ hb, Host.Outcome.next.injEq] at hu
        by_cases hr : inRange arg s.nchunk = true
        · rw [if_pos (by simpa using hr)] at hu
          exact .inr (.inl ⟨arg, hr, hu.symm⟩)
        · rw [if_neg (by simpa using hr)] at hu
          exact .inl (E _ hu.symm)
      | cksum =>
        simp only [runCommand, execCksum, State.whenStable_of_stable _ _ hb, Host.Outcome.next.injEq] at hu
        split at hu
        · exact .inl (E _ hu.symm)
        · exact .inr (.inr (.inl ⟨_, hu.symm⟩))

/-- A cycle without reset that starts in a busy state: plain host writes, then the state's rule. -/
theorem step_busy (s t : State) (hb : s.busy = true) (hr : s.input.rst = false) (h : step s = .next t) :
    ∃ c a l e r v, sequencerRule s.st (s.beginCycle.hostWrites c a l e r) = .next v ∧ t = v.endCycle := by
  rcases step_cases s t h with ⟨h1, -⟩ | ⟨-, u, v, hu, hv, rfl⟩
  · rw [hr] at h1; cases h1
  · obtain ⟨c, a, l, e, r, rfl⟩ := hostPart_busy s u hb hu
    exact ⟨c, a, l, e, r, v, hv, rfl⟩

/-- A cycle without reset that starts in a stable state: the host's part alone (R91). -/
theorem step_stable (s t : State) (hb : s.busy = false) (hr : s.input.rst = false) (h : step s = .next t) :
    ∃ u, hostPart s = .next u ∧ t = u.endCycle := by
  rcases step_cases s t h with ⟨h1, -⟩ | ⟨-, u, v, hu, hv, rfl⟩
  · rw [hr] at h1; cases h1
  · refine ⟨u, hu, ?_⟩
    rcases s.stable_cases hb with hs | hs | hs <;> rw [hs] at hv <;> cases hv <;> rfl

/-- CLEAR in a stable state is the whole of the host's part. -/
theorem hostPart_clear (s : State) (hb : s.busy = false) (h : s.input.hop = .wr 0x00#8 0x00000002#32) :
    hostPart s = .next s.beginCycle.clearSession := by
  have hf : s.fetched = some .clear := by simp only [State.fetched, h]; rfl
  have hb' : s.beginCycle.busy = false := by simpa using hb
  simp only [hostPart, hf, exec, execClear, State.whenStable_of_stable _ _ hb']

/-- START in IDLE is the whole of the host's part. -/
theorem hostPart_start (s : State) (hs : s.st = .idle) (h : s.input.hop = .wr 0x00#8 0x00000001#32) :
    hostPart s = .next s.beginCycle.beginSession := by
  have hf : s.fetched = some .start := by simp only [State.fetched, h]; rfl
  have hb' : s.beginCycle.busy = false := by simp [State.busy, hs, SeqState.stable]
  simp only [hostPart, hf, exec, execStart, State.whenStable_of_stable _ _ hb']
  simp [hs]

/-- In a stable state, a host's part that runs neither START in IDLE nor CLEAR leaves STATE, ACK_LATCH and the inputs. -/
theorem hostPart_stable_other (s u : State) (hb : s.busy = false) (hu : hostPart s = .next u)
    (h1 : ¬(s.st = .idle ∧ s.input.hop = .wr 0x00#8 0x00000001#32)) (h2 : s.input.hop ≠ .wr 0x00#8 0x00000002#32) :
    u.latchAssigned = false ∧ u.ackLatch = s.ackLatch ∧ u.input = s.input ∧ u.st = s.st := by
  rcases hostPart_stable s u hb hu with ⟨c, len, ta, sd, a, l, e, m, r, rfl, -⟩ | ⟨arg, ha, rfl⟩ | ⟨q, rfl⟩ |
    ⟨h3, h4, rfl⟩ | ⟨h3, rfl⟩
  · exact ⟨rfl, rfl, rfl, rfl⟩
  · exact ⟨rfl, rfl, rfl, rfl⟩
  · exact ⟨rfl, rfl, rfl, rfl⟩
  · exact absurd ⟨h3, h4⟩ h1
  · exact absurd h3 h2

end Sys2Proof.Machine
end

