-- ==== Sys2Proof/Laws/PerInstr.lean ====
section
/-! SUPPORT. What holds of the code of every instruction, one lemma per constructor: a command or bus operation is encoded as
one operation of the port `hop`, a wire frame as 1 to 244 bytes of a `tx_req` of its kind (30_encoding.md R56). -/

namespace Sys2Proof.Laws.EncodedForm

/-- The form of an instruction's code, for every parameter set R6 allows. -/
def Statement (i : Instr) : Prop :=
  ∀ p : Params, p.wf = true →
    match encode p i with
    | .bus op => op ≠ .none
    | .frame .data bytes => bytes.length = 244
    | .frame .reset1 bytes => 1 ≤ bytes.length ∧ bytes.length ≤ 244
    | .frame .reset2 bytes => 1 ≤ bytes.length ∧ bytes.length ≤ 244
    | .frame .finalize bytes => 1 ≤ bytes.length ∧ bytes.length ≤ 244

/-- What `Params.wf` says of the three control frames. -/
theorem control_lengths (p : Params) (h : p.wf = true) :
    (1 ≤ p.reset1.length ∧ p.reset1.length ≤ 244) ∧ (1 ≤ p.reset2.length ∧ p.reset2.length ≤ 244) ∧
      1 ≤ p.finalize.length ∧ p.finalize.length ≤ 244 := by
  simp only [Params.wf, Config.controlLength, Bool.and_eq_true, decide_eq_true_eq] at h
  exact ⟨h.1.1.1, h.1.1.2, h.1.2⟩

theorem nop : Statement .nop := fun _ _ => by simp [encode]
theorem start : Statement .start := fun _ _ => by simp [encode]
theorem clear : Statement .clear := fun _ _ => by simp [encode]
theorem encode (arg : Byte) : Statement (.encode arg) := fun _ _ => by simp [Sys2Proof.encode]
theorem cksum : Statement .cksum := fun _ _ => by simp [Sys2Proof.encode]
theorem rd (off : Byte) : Statement (.rd off) := fun _ _ => by simp [Sys2Proof.encode]
theorem wr (off : Byte) (d : Word) : Statement (.wr off d) := fun _ _ => by simp [Sys2Proof.encode]
theorem rdb (a : Half) : Statement (.rdb a) := fun _ _ => by simp [Sys2Proof.encode]
theorem wrb (a : Half) (b : Byte) : Statement (.wrb a b) := fun _ _ => by simp [Sys2Proof.encode]
theorem rdf (k : Byte) : Statement (.rdf k) := fun _ _ => by simp [Sys2Proof.encode]
theorem data (i : Byte) (n : BitVec 9) (chunk : Vector Byte 196) : Statement (.data i n chunk) := fun _ _ => by
  simp [Sys2Proof.encode]
theorem reset1 : Statement .reset1 := fun p h => by simpa [Sys2Proof.encode] using (control_lengths p h).1
theorem reset2 : Statement .reset2 := fun p h => by simpa [Sys2Proof.encode] using (control_lengths p h).2.1
theorem finalize : Statement .finalize := fun p h => by simpa [Sys2Proof.encode] using (control_lengths p h).2.2

end Sys2Proof.Laws.EncodedForm
end

