-- ==== Sys2Proof/Laws/Run.lean ====
section
/-! SUPPORT. One more cycle of a run: what it adds to the run, to the frames sent and to the end of the run (R143). -/

namespace Sys2Proof.Machine

variable (s t : State)

theorem run_succ (n : Nat) (h : step s = .next t) :
    Sys2Proof.core.run (n + 1) s = Sys2Proof.core.run n t := by
  have h' : Sys2Proof.core.step s = .next t := h
  simp only [Host.Core.run, h']

theorem framesSent_succ (n : Nat) (h : step s = .next t) :
    framesSent (n + 1) s = t.out.txReq.toList ++ framesSent n t := by
  simp [framesSent, h]

theorem runEndFrom_succ (n k : Nat) (p : LastStart) (h : step s = .next t) :
    runEndFrom (n + 1) k p s = runEndFrom n (k + 1) ((p.atCycle k s).afterCycle s) t := by
  simp [runEndFrom, h]

@[simp] theorem LastStart.atCycle_noEnd (k : Nat) : LastStart.noEnd.atCycle k s = .noEnd := rfl
@[simp] theorem LastStart.atCycle_done (e : RunEnd) (k : Nat) : (LastStart.done e).atCycle k s = .done e := rfl

theorem LastStart.atCycle_pending (k : Nat) :
    LastStart.pending.atCycle k s = if ended s then .done ⟨k, s⟩ else .pending := rfl

theorem LastStart.afterCycle_of_rst (p : LastStart) (h : s.input.rst = true) : p.afterCycle s = .noEnd := by
  simp [LastStart.afterCycle, h]

/-- A cycle with neither a reset nor a START leaves the last START as it is. -/
theorem LastStart.afterCycle_of_other (p : LastStart) (hr : s.input.rst = false) (hf : s.fetched ≠ some .start) :
    p.afterCycle s = p := by
  simp [LastStart.afterCycle, hr, hf]

theorem LastStart.afterCycle_of_start (p : LastStart) (hr : s.input.rst = false) (hf : s.fetched = some .start) :
    p.afterCycle s = if s.st = .idle then .pending else .noEnd := by
  simp [LastStart.afterCycle, hr, hf]

/-- A run that has an end ends in COMPLETED or FAILED. -/
theorem runEndFrom_ended (fuel k : Nat) (p : LastStart) (hp : ∀ e, p = .done e → ended e.state = true) (e : RunEnd)
    (h : runEndFrom fuel k p s = some e) : ended e.state = true := by
  have hat : ∀ s : State, ∀ e, p.atCycle k s = .done e → ended e.state = true := by
    intro s e he
    cases p with
    | noEnd => cases he
    | pending =>
      rw [LastStart.atCycle_pending] at he
      split at he
      · cases he; assumption
      · cases he
    | done e' => exact hp e he
  induction fuel generalizing k p s with
  | zero =>
    simp only [runEndFrom] at h
    cases hq : p.atCycle k s with
    | noEnd => simp [hq, LastStart.runEnd] at h
    | pending => simp [hq, LastStart.runEnd] at h
    | done e' => simp only [hq, LastStart.runEnd, Option.some.injEq] at h; subst h; exact hat s _ hq
  | succ n ih =>
    cases hs : step s with
    | next t =>
      rw [runEndFrom_succ s t n k p hs] at h
      have hq : ∀ e, (p.atCycle k s).afterCycle s = .done e → ended e.state = true := by
        intro e he
        unfold LastStart.afterCycle at he
        split at he
        · cases he
        · split at he
          · split at he <;> cases he
          · exact hat s e he
      refine ih (k := k + 1) (p := (p.atCycle k s).afterCycle s) (s := t) hq h ?_
      intro s' e he
      cases hq2 : (p.atCycle k s).afterCycle s with
      | noEnd => rw [hq2] at he; cases he
      | pending =>
        rw [hq2, LastStart.atCycle_pending] at he
        split at he
        · cases he; assumption
        · cases he
      | done e' => rw [hq2] at he; cases he; exact hq _ hq2
    | fault r => cases r
    | refused r => simp [runEndFrom, hs] at h

end Sys2Proof.Machine
end

