-- ==== Sys2Proof/Laws/Session.lean ====
section
/-! SUPPORT. Which fields the session invariant looks at, and what the transport's duty of R55 excludes. -/

namespace Sys2Proof.Machine

open Sys2Proof.Safety

/-- R93's condition for Fail(4), read on the answers that are awaited (log 29). -/
theorem subFails_eq_awaited (s : State) (h : s.st = .subscribing) :
    s.subFails = ((dropExtraAnswers s s.input).subRsp0 == .err || (dropExtraAnswers s s.input).subRsp1 == .err) := by
  simp only [State.subFails, dropExtraAnswers, awaitsSub, h, beq_self_eq_true, Bool.true_and]
  cases s.subOk.getLsbD 0 <;> cases s.subOk.getLsbD 1 <;> simp

/-- Under the transport's duty no answer is extra. -/
theorem dropExtraAnswers_of_awaited (s : State) (c : CycleIn) (h : answersAwaited s c = true) :
    dropExtraAnswers s c = c := by
  simp only [answersAwaited, Bool.and_eq_true, Bool.or_eq_true, beq_iff_eq] at h
  obtain ⟨⟨⟨hc, h0⟩, h1⟩, ht⟩ := h
  obtain ⟨rst, hop, connRsp, subRsp0, subRsp1, txDone, ntf0, ntf1, tick⟩ := c
  simp only [dropExtraAnswers, CycleIn.mk.injEq, true_and, and_true]
  refine ⟨?_, ?_, ?_, ?_⟩
  · rcases hc with rfl | h <;> simp [*]
  · rcases h0 with rfl | h <;> simp [*]
  · rcases h1 with rfl | h <;> simp [*]
  · rcases ht with rfl | h <;> simp [*]

/-- An OK of a source already answered OK leaves SUB_OK as it is: "A repeated OK for a source already set has no effect"
(R93). -/
theorem subOkNext_of_set (s : State) (c : CycleIn) (h : s.input = c) (k : Bool)
    (hk : s.subOk.getLsbD (if k then 1 else 0) = true) (ho : (if k then c.subRsp0 else c.subRsp1) ≠ .ok) :
    s.subOkNext = s.subOk := by
  unfold State.subOkNext
  rw [h]
  revert hk ho
  generalize s.subOk = v
  cases k <;> simp only [Bool.false_eq_true, ↓reduceIte] <;> intro hk ho
  · rw [beq_eq_false_iff_ne.mpr ho]
    cases (c.subRsp0 == .ok) <;> revert v <;> decide
  · rw [beq_eq_false_iff_ne.mpr ho]
    cases (c.subRsp1 == .ok) <;> revert v <;> decide

/-- A busy state is one of the invariant's phases; outside them the invariant says nothing of N and the limits. -/
theorem busy_of_transferring (s : State) (h : transferring s.st = true) : s.busy = true := by
  revert h; unfold State.busy; cases s.st <;> decide

theorem busy_of_finalizing (s : State) (h : transferring.finalizing s.st = true) : s.busy = true := by
  revert h; unfold State.busy; cases s.st <;> decide

/-- The session invariant depends only on the fields named; on N and the limits only while busy. -/
theorem sessionInv_congr (s t : State) (h : SessionInv s) (hst : t.st = s.st) (hidx : t.idx = s.idx)
    (hconn : t.connUp = s.connUp) (herr : t.err = s.err) (hfail : t.failIdx = s.failIdx) (hsub : t.subOk = s.subOk)
    (htimer : t.timer = s.timer) (htx : t.txCount = s.txCount)
    (hbusy : s.busy = true → t.nchunk = s.nchunk ∧ t.settleDelay = s.settleDelay ∧ t.ackTimeout = s.ackTimeout) :
    SessionInv t := by
  have hb : t.busy = s.busy := by simp [State.busy, hst]
  obtain ⟨a1, a2, a3, a4, a5, a6, a7, a8, a9, a10, a11, a12, a13, a14, a15⟩ := h
  constructor
  · rw [hconn, hst, a1]
  · intro k; rw [hb] at k; rw [(hbusy k).1]; exact a2 k
  · rw [hst, hidx]; intro k; rw [(hbusy (busy_of_transferring s k)).1]; exact a3 k
  · rw [hst, hidx]; intro k; rw [(hbusy (busy_of_finalizing s k)).1]; exact a4 k
  · rw [hst, hidx]; exact a5
  · rw [hidx]; exact a6
  · rw [hst, herr]; exact a7
  · rw [hst, hidx, hfail]; exact a8
  · rw [hst, hsub]; exact a9
  · rw [hst, hsub]; exact a10
  · rw [hst, hsub]; exact a11
  · rw [hst, htimer]; intro k
    rw [(hbusy (by simp [State.busy, k, SeqState.stable])).2.1]; exact a12 k
  · rw [hst, htimer]; intro k
    rw [(hbusy (by simp [State.busy, k, SeqState.stable])).2.2]; exact a13 k
  · rw [hst, hidx, htx]; exact a14
  · rw [htx]; exact a15

end Sys2Proof.Machine
end

