-- ==== Sys2Proof/Machine/HostProgram.lean ====
section
/-! DEFINITION. Host programs (30_encoding.md R72, R73): their abstract syntax, the cycles they stand for, and the reading of
their text. A program is loaded into the machine as the list of its cycles' inputs (`State.withProgram`; log 1, log 21). -/

namespace Sys2Proof.Machine

/-! ### Events, statements and lines -/

/-- `<event>` of R72. -/
inductive HostEvent where
  /-- `conn=ok`, `conn=err` -/
  | conn (ok : Bool)
  /-- `sub0=ok`, `sub0=err` -/
  | sub0 (ok : Bool)
  /-- `sub1=ok`, `sub1=err` -/
  | sub1 (ok : Bool)
  /-- `tx=ok`, `tx=err` -/
  | tx (ok : Bool)
  | ntf0
  | ntf1
  | tick
  | rst
  deriving DecidableEq, Repr

/-- What stands before the events of a line: a host operation of R72, or a pseudo-instruction of R73. -/
inductive HostStmt where
  /-- no host operation: the line `idle`, or a line of events only -/
  | quiet
  /-- `rd`, `wr`, `rdb`, `wrb`, `rdf` -/
  | bus (op : HostOp)
  /-- `cmd OPNAME` -/
  | cmd (c : Command)
  /-- `load a, ...` -/
  | load (a : Nat) (bytes : List Byte)
  /-- `fill a, n, b` -/
  | fill (a n : Nat) (b : Byte)
  /-- `idle n` -/
  | idle (n : Nat)
  /-- `ticks n` -/
  | ticks (n : Nat)
  /-- `ack` -/
  | ack
  deriving DecidableEq, Repr

/-- One line of a program. -/
structure HostLine where
  stmt : HostStmt
  events : List HostEvent
  deriving DecidableEq, Repr

/-! ### The cycles of a program -/

/-- An answer of a line. -/
def answerOf (ok : Bool) : Rsp := if ok then .ok else .err

/-- `v` on a port that so far holds `old`: it may stand there already, but not differ. -/
def setRsp (old v : Rsp) : Option Rsp := if old = .none ∨ old = v then some v else none

/-- A cycle with one more event; none where the line says both OK and ERR of one answer (log 21). -/
def addEvent (c : CycleIn) (e : HostEvent) : Option CycleIn :=
  match e with
  | .conn ok => (setRsp c.connRsp (answerOf ok)).map fun r => { c with connRsp := r }
  | .sub0 ok => (setRsp c.subRsp0 (answerOf ok)).map fun r => { c with subRsp0 := r }
  | .sub1 ok => (setRsp c.subRsp1 (answerOf ok)).map fun r => { c with subRsp1 := r }
  | .tx ok => (setRsp c.txDone (answerOf ok)).map fun r => { c with txDone := r }
  | .ntf0 => some { c with ntf0 := true }
  | .ntf1 => some { c with ntf1 := true }
  | .tick => some { c with tick := true }
  | .rst => some { c with rst := true }

/-- A cycle with the events of a line. -/
def addEvents (c : CycleIn) (events : List HostEvent) : Option CycleIn :=
  match events with
  | [] => some c
  | e :: rest => (addEvent c e).bind fun c' => addEvents c' rest

/-- One `wrb a+k, byte k` cycle for each byte. -/
def loadCycles (a : Nat) (bytes : List Byte) : List CycleIn :=
  match bytes with
  | [] => []
  | b :: rest => { hop := .wrb (BitVec.ofNat 16 a) b } :: loadCycles (a + 1) rest

/-- The cycles of a statement (R73); none where an address does not fit its 16 bits. -/
def HostStmt.cycles (s : HostStmt) : Option (List CycleIn) :=
  match s with
  | .quiet => some [{}]
  | .bus op => some [{ hop := op }]
  | .cmd c => some [{ hop := .wr 0x00#8 c.word }]
  | .load a bytes => if a + bytes.length ≤ 0x10000 then some (loadCycles a bytes) else none
  | .fill a n b => if a + n ≤ 0x10000 then some (loadCycles a (List.replicate n b)) else none
  | .idle n => some (List.replicate n {})
  | .ticks n => some (List.replicate n { tick := true })
  | .ack => some [{ ntf1 := true }]

/-- The events on the last cycle; none where there are events and no cycle to hold them. -/
def eventsOnLast (cycles : List CycleIn) (events : List HostEvent) : Option (List CycleIn) :=
  match cycles with
  | [] => if events = [] then some [] else none
  | [c] => (addEvents c events).map fun c' => [c']
  | c :: d :: rest => (eventsOnLast (d :: rest) events).map fun l => c :: l

/-- The cycles of a line (R72, and R73's last sentence). -/
def HostLine.cycles (l : HostLine) : Option (List CycleIn) := l.stmt.cycles.bind fun cs => eventsOnLast cs l.events

/-- The cycles of a program, cycle 0 first. -/
def programCycles (lines : List HostLine) : Option (List CycleIn) :=
  match lines with
  | [] => some []
  | l :: rest => l.cycles.bind fun cs => (programCycles rest).map fun more => cs ++ more

/-- `s` with a program loaded: its cycles are the coming ones (log 1). -/
def State.withProgram (s : State) (cycles : List CycleIn) : State := { s with inputs := cycles }

/-! ### The text of a program, as a list of characters -/

/-- The quotation mark. -/
def quoteMark : Char := Char.ofNat 34

/-- Cut at each `sep` that stands outside quotation marks; `part` is the piece read so far, reversed. -/
def splitOutside (sep : Char) (quoted : Bool) (part : List Char) (text : List Char) : List (List Char) :=
  match text with
  | [] => [part.reverse]
  | c :: rest =>
    if c = sep ∧ quoted = false then part.reverse :: splitOutside sep false [] rest
    else splitOutside sep (if c = quoteMark then !quoted else quoted) (c :: part) rest

/-- The lines of a text; `part` is the line read so far, reversed. -/
def textLines (part text : List Char) : List (List Char) :=
  match text with
  | [] => [part.reverse]
  | c :: rest => if c = '\n' then part.reverse :: textLines [] rest else textLines (c :: part) rest

/-- Blank space within a line. -/
def isBlank (c : Char) : Bool := c.toNat == 32 || c.toNat == 9 || c.toNat == 13

/-- A piece without the blanks around it. -/
def trimBlanks (text : List Char) : List Char := ((text.dropWhile isBlank).reverse.dropWhile isBlank).reverse

/-- A digit below `base`. -/
def digitValue (base : Nat) (c : Char) : Option Nat :=
  let n := c.toNat
  let v := if 48 ≤ n ∧ n ≤ 57 then n - 48 else if 97 ≤ n ∧ n ≤ 102 then n - 87 else if 65 ≤ n ∧ n ≤ 70 then n - 55 else 16
  if v < base then some v else none

/-- Digits, read on from the value `acc`. -/
def digitsValue (base acc : Nat) (text : List Char) : Option Nat :=
  match text with
  | [] => some acc
  | c :: rest => (digitValue base c).bind fun v => digitsValue base (acc * base + v) rest

/-- A number: decimal, hexadecimal after `0x`, or binary after `0b` (R8). -/
def numberValue (text : List Char) : Option Nat :=
  match text with
  | [] => none
  | '0' :: 'x' :: c :: rest => digitsValue 16 0 (c :: rest)
  | '0' :: 'b' :: c :: rest => digitsValue 2 0 (c :: rest)
  | c :: rest => digitsValue 10 0 (c :: rest)

/-- A number below `2 ^ bits`. -/
def numberBits (bits : Nat) (text : List Char) : Option (BitVec bits) :=
  (numberValue text).bind fun v => if v < 2 ^ bits then some (BitVec.ofNat bits v) else none

/-- The register names of R23 with their offsets. -/
def registerNames : List (List Char × Byte) :=
  [("CMD".toList, 0x00#8), ("STATUS".toList, 0x04#8), ("ERROR".toList, 0x08#8), ("PAYLOAD_LEN".toList, 0x0C#8),
    ("NCHUNK".toList, 0x10#8), ("ACK_TIMEOUT".toList, 0x14#8), ("SETTLE_DELAY".toList, 0x18#8)] ++
  [("TIMER".toList, 0x1C#8), ("CKS_ADDR".toList, 0x20#8), ("CKS_LEN".toList, 0x24#8), ("CKS_RESULT".toList, 0x28#8),
    ("FRAME_LEN".toList, 0x2C#8), ("INT_CTRL".toList, 0x30#8), ("TX_COUNT".toList, 0x34#8)]

/-- `REG`: a register's name or an offset (R72). -/
def registerOffset (text : List Char) : Option Byte :=
  match registerNames.find? fun r => r.1 == text with
  | some r => some r.2
  | none => numberBits 8 text

/-- `OPNAME ["," imm8]` (R58, R72). DESIGN CHOICE (log 30): only the forms R73 expands are program text, ENCODE with its
operand and the other names without one. -/
def commandOfText (args : List (List Char)) : Option Command :=
  match args with
  | [name] =>
    if name = "NOP".toList then some .nop
    else if name = "START".toList then some .start
    else if name = "CLEAR".toList then some .clear
    else if name = "CKSUM".toList then some .cksum
    else none
  | [name, i] => if name = "ENCODE".toList then (numberBits 8 i).map fun b => .encode b else none
  | _ => none

/-- The bytes of numbers, all of them or none. -/
def bytesOfTexts (parts : List (List Char)) : Option (List Byte) :=
  match parts with
  | [] => some []
  | p :: rest => (numberBits 8 (trimBlanks p)).bind fun b => (bytesOfTexts rest).map fun bs => b :: bs

/-- The characters of a string as bytes, up to the closing quotation mark, which ends the text. -/
def bytesOfString (text : List Char) : Option (List Byte) :=
  match text with
  | [] => none
  | [c] => if c = quoteMark then some [] else none
  | c :: d :: rest =>
    if c = quoteMark ∨ 128 ≤ c.toNat then none
    else (bytesOfString (d :: rest)).map fun bs => BitVec.ofNat 8 c.toNat :: bs

/-- `"s"` or `[b0, b1, ...]` (R73). -/
def bytesOfText (text : List Char) : Option (List Byte) :=
  match text with
  | [] => none
  | c :: rest =>
    if c = quoteMark then bytesOfString rest
    else if c = '[' ∧ rest.getLast? = some ']' then
      let inner := trimBlanks rest.dropLast
      if inner = [] then some [] else bytesOfTexts (splitOutside ',' false [] inner)
    else none

/-- The first argument, up to the first comma, and the text after it. -/
def cutComma (before text : List Char) : Option (List Char × List Char) :=
  match text with
  | [] => none
  | c :: rest => if c = ',' then some (trimBlanks before.reverse, trimBlanks rest) else cutComma (c :: before) rest

/-- A statement from its first word and the text after it (R72, R73). -/
def stmtOfText (word rest : List Char) : Option HostStmt :=
  let args := (splitOutside ',' false [] rest).map trimBlanks
  if word = "idle".toList then
    if rest = [] then some .quiet else (numberValue rest).map fun n => .idle n
  else if word = "ticks".toList then (numberValue rest).map fun n => .ticks n
  else if word = "ack".toList then if rest = [] then some .ack else none
  else if word = "cmd".toList then (commandOfText args).map fun c => .cmd c
  else if word = "rd".toList then (registerOffset rest).map fun off => .bus (.rd off)
  else if word = "rdb".toList then (numberBits 16 rest).map fun a => .bus (.rdb a)
  else if word = "rdf".toList then (numberBits 8 rest).map fun k => .bus (.rdf k)
  else if word = "load".toList then
    (cutComma [] rest).bind fun p =>
      (numberValue p.1).bind fun a => (bytesOfText p.2).map fun bs => .load a bs
  else
    match args with
    | [x, y] =>
      if word = "wr".toList then
        (registerOffset x).bind fun off => (numberBits 32 y).map fun d => .bus (.wr off d)
      else if word = "wrb".toList then (numberBits 16 x).bind fun a => (numberBits 8 y).map fun b => .bus (.wrb a b)
      else none
    | [x, y, z] =>
      if word = "fill".toList then
        (numberValue x).bind fun a => (numberValue y).bind fun n => (numberBits 8 z).map fun b => .fill a n b
      else none
    | _ => none

/-- An event from its text (R72). -/
def eventOfText (text : List Char) : Option HostEvent :=
  if text = "conn=ok".toList then some (.conn true)
  else if text = "conn=err".toList then some (.conn false)
  else if text = "sub0=ok".toList then some (.sub0 true)
  else if text = "sub0=err".toList then some (.sub0 false)
  else if text = "sub1=ok".toList then some (.sub1 true)
  else if text = "sub1=err".toList then some (.sub1 false)
  else if text = "tx=ok".toList then some (.tx true)
  else if text = "tx=err".toList then some (.tx false)
  else if text = "ntf0".toList then some .ntf0
  else if text = "ntf1".toList then some .ntf1
  else if text = "tick".toList then some .tick
  else if text = "rst".toList then some .rst
  else none

/-- The events after the first `;`, all of them or none. -/
def eventsOfTexts (parts : List (List Char)) : Option (List HostEvent) :=
  match parts with
  | [] => some []
  | p :: rest => (eventOfText (trimBlanks p)).bind fun e => (eventsOfTexts rest).map fun es => e :: es

/-- A line without its comment: `some none` for a line that is no cycle (blank, or only a comment), `none` for a line that
is no program text. -/
def lineOfText (text : List Char) : Option (Option HostLine) :=
  let code := trimBlanks ((splitOutside '#' false [] text).headD [])
  if code = [] then some none
  else
    match splitOutside ';' false [] code with
    | [] => none
    | head :: events =>
      let stmt := trimBlanks head
      (eventsOfTexts events).bind fun es =>
        if stmt = [] then some (some ⟨.quiet, es⟩)
        else
          let word := stmt.takeWhile fun c => !isBlank c
          (stmtOfText word (trimBlanks (stmt.dropWhile fun c => !isBlank c))).map fun st => some ⟨st, es⟩

/-- The lines of a program, all of them or none. -/
def linesOfTexts (lines : List (List Char)) : Option (List HostLine) :=
  match lines with
  | [] => some []
  | l :: rest =>
    (lineOfText l).bind fun o =>
      (linesOfTexts rest).map fun ls =>
        match o with
        | some line => line :: ls
        | none => ls

/-- The cycles of a program's text, a line ending at each newline character (R72). -/
def readProgram (text : List Char) : Option (List CycleIn) :=
  (linesOfTexts (textLines [] text)).bind programCycles

end Sys2Proof.Machine
end

