-- ==== Sys2Proof/Tests/Slice0.lean ====
section
/-! SUPPORT. Tests. Expected words come from the vectors of 95_test_vectors.md (named in each docstring) or from the encoding
tables of 30_encoding.md. The `witness_` theorems show states and operands that meet the hypotheses of the statement each
names. -/

namespace Sys2Proof.Tests

open Sys2Proof.Machine Sys2Proof.Safety

/-! ### Fixtures -/

/-- Fixture TC0 of 95_test_vectors.md; the opaque transport values are this file's own. -/
def tc0 : Params where
  frameStart := .replicate 4 0x00#8
  idxPad := 0x00#8
  hdrA := .replicate 28 0x00#8
  hdrB := .replicate 4 0x00#8
  hdrC := .replicate 2 0x00#8
  reset1 := [0xA1#8]
  reset2 := [0xA2#8]
  finalize := [0xF1#8]
  deviceAddr := 11
  writeHandle := 12
  subId0 := 13
  subId1 := 14
  writeRespData := false
  writeRespCtrl := true
  tickPeriod := 1000

/-- Fixture TC1: HDR_A holds 0x10 + k at position k. -/
def tc1 : Params :=
  { tc0 with
    frameStart := #v[0x01#8, 0x02#8, 0x03#8, 0x04#8]
    hdrA := .ofFn fun k => BitVec.ofNat 8 (0x10 + k.val)
    hdrB := #v[0xF0#8, 0xF1#8, 0xF2#8, 0xF3#8]
    hdrC := #v[0x55#8, 0xAA#8] }

/-- "GIF89a1234". -/
def gif : List Byte := [0x47#8, 0x49#8, 0x46#8, 0x38#8, 0x39#8, 0x61#8, 0x31#8, 0x32#8, 0x33#8, 0x34#8]

/-- "GIF89a1234" and 186 zero bytes. -/
def gifChunk : Vector Byte 196 := .ofFn fun k => gif.getD k.val 0x00#8

/-- The payload of PFE-3: the chunk above, then DE AD BE EF. -/
def twoChunks : List Byte := gifChunk.toList ++ [0xDE#8, 0xAD#8, 0xBE#8, 0xEF#8]

/-- The state the FCS vectors start from: L = 200, CONN_UP = 1 from SUBSCRIBING on, SUB_OK = 0b11 from CONNECTED on, with
one cycle's inputs. -/
def inState (st : SeqState) (c : CycleIn) : State :=
  { State.reset with
    st := st, connUp := holdsConnection st, subOk := if subscribed st then 0b11#2 else 0b00#2, payloadLen := 200
    pb := Memory.ofBytes 0 twoChunks, params := tc0, inputs := [c] }

/-- After reset, TC0, with the host's operation `op`. -/
def idleWith (op : HostOp) : State := { State.reset with params := tc0, inputs := [{ hop := op }] }

/-- The state after one step. -/
def after (s : State) : State :=
  match step s with
  | .next t => t
  | .fault _ => s
  | .refused _ => s

/-- The state after one instruction. -/
def afterExec (i : Instr) (s : State) : State :=
  match exec i s with
  | .next t => t
  | .fault _ => s
  | .refused _ => s

/-- STATUS and ERROR. -/
def words (s : State) : Word × Word := (s.statusWord, s.errorWord)

/-! ### Well-formedness: one ill-formed term for each check -/

theorem test_wf_accepts_last_packet : (Instr.data 254 255 gifChunk).wellFormed = true := by decide
/-- R60: a CMD write of a command word is that command. -/
theorem test_wf_refuses_second_spelling : (Instr.wr 0x00#8 0x00000001#32).wellFormed = false := by decide
/-- R61: `i < N`. -/
theorem test_wf_refuses_index_equal_count : (Instr.data 1 1 gifChunk).wellFormed = false := by decide
/-- R66: `N ≤ 255`. -/
theorem test_wf_refuses_count_256 : (Instr.data 0 256 gifChunk).wellFormed = false := by decide

/-! ### Decoding: words written out from R57 and R58, one for each constructor -/

theorem test_decode_nop : decodeBus (.wr 0x00#8 0b00000000000000000000000000000000#32) = .ok .nop := by decide
theorem test_decode_start : decodeBus (.wr 0x00#8 0b00000000000000000000000000000001#32) = .ok .start := by decide
theorem test_decode_clear : decodeBus (.wr 0x00#8 0b00000000000000000000000000000010#32) = .ok .clear := by decide
/-- ENC-3: OPC 0x03, ARG 0xFE. -/
theorem test_decode_encode : decodeBus (.wr 0x00#8 0b00000000000000001111111000000011#32) = .ok (.encode 254) := by decide
theorem test_decode_cksum : decodeBus (.wr 0x00#8 0b00000000000000000000000000000100#32) = .ok .cksum := by decide
theorem test_decode_rd : decodeBus (.rd 0x04#8) = .ok (.rd 0x04#8) := by decide
/-- HIF-7. -/
theorem test_decode_wr : decodeBus (.wr 0x0C#8 0x00010005#32) = .ok (.wr 0x0C#8 0x00010005#32) := by decide
theorem test_decode_rdb : decodeBus (.rdb 0xC33B#16) = .ok (.rdb 0xC33B#16) := by decide
theorem test_decode_wrb : decodeBus (.wrb 0xC33B#16 0xAA#8) = .ok (.wrb 0xC33B#16 0xAA#8) := by decide
theorem test_decode_rdf : decodeBus (.rdf 242#8) = .ok (.rdf 242#8) := by decide

/-- The PFE-2 frame, its bytes as 95_test_vectors.md writes them. -/
def pfe2 : List Byte :=
  [0x01#8, 0x02#8, 0x03#8, 0x04#8, 0xED#8, 0x00#8, 0x00#8, 0x00#8] ++
  [0x10#8, 0x11#8, 0x12#8, 0x13#8, 0x14#8, 0x15#8, 0x16#8, 0x17#8, 0x18#8, 0x19#8, 0x1A#8, 0x1B#8, 0x1C#8, 0x1D#8] ++
  [0x1E#8, 0x1F#8, 0x20#8, 0x21#8, 0x22#8, 0x23#8, 0x24#8, 0x25#8, 0x26#8, 0x27#8, 0x28#8, 0x29#8, 0x2A#8, 0x2B#8] ++
  [0x01#8, 0x00#8, 0x00#8, 0x00#8, 0xF0#8, 0xF1#8, 0xF2#8, 0xF3#8, 0x55#8, 0xAA#8] ++
  gif ++ List.replicate 186 0x00#8 ++ [0x69#8, 0x0B#8]

/-- R61 to R70: the PFE-2 frame is DATA with i = 0, N = 1. -/
theorem test_decode_data : decode tc1 (.frame .data pfe2) = .ok (.data 0 1 gifChunk) := by decide +kernel
/-- R70: one bit of the trailer wrong. -/
theorem test_decode_data_refuses_trailer :
    decode tc1 (.frame .data (pfe2.set 243 0x0A#8)) = .error .wrongTrailer := by decide +kernel
theorem test_decode_reset1 : decode tc0 (.frame .reset1 [0xA1#8]) = .ok .reset1 := by decide
theorem test_decode_reset2 : decode tc0 (.frame .reset2 [0xA2#8]) = .ok .reset2 := by decide
theorem test_decode_finalize : decode tc0 (.frame .finalize [0xF1#8]) = .ok .finalize := by decide

/-- HIF-13: illegal command words. -/
theorem test_decode_refuses :
    decodeCommand 0x00000105#32 = none ∧ decodeCommand 0x00010000#32 = none ∧ decodeCommand 0x00000005#32 = none ∧
      decodeCommand 0x000000FF#32 = none := by decide

/-- R58: no word selects two rows of the opcode map, since each pattern fails every other row's mask on a common bit. -/
theorem test_rows_disjoint :
    commandRows.Pairwise fun a b => (a.pattern ^^^ b.pattern) &&& (a.mask &&& b.mask) ≠ 0 := by decide

/-- The host's question, with a row's word placed as the next command. -/
theorem test_fetched_word_runs :
    (State.reset.withFetchWord 32 0x00000103).fetched = some (.encode 1) ∧
      (after (State.reset.withFetchWord 32 0x00000103)).cmdErr = .index := by decide

/-! ### The checksum engine -/

/-- CKE-1 to CKE-6. -/
theorem test_reduce_short :
    [[], [0xFF#8], [0xFF#8, 0x01#8], [0x7F#8], [0x80#8], gif.take 6].map (fun X => (reduceBytes X).word) =
      [0x00000000#32, 0x00FF01FF#32, 0x01000100#32, 0x007F007F#32, 0x00800180#32, 0x01A802A8#32] := by decide
/-- CKE-11 and CKE-12: both wraps of ACC16. -/
theorem test_reduce_wraps :
    (reduceBytes (List.replicate 257 0xFF#8)).word = 0xFFFF00FF#32 ∧
      (reduceBytes (List.replicate 258 0xFF#8)).word = 0x00FE01FE#32 := by decide +kernel

/-- NCH-1, NCH-4, NCH-5, NCH-9, NCH-10, NCH-11. -/
theorem test_chunk_count : [0, 196, 197, 49980, 49981, 65535].map chunkCount = [0, 1, 2, 255, 256, 335] := by decide

/-! ### Commands -/

/-- HIF-15. -/
theorem test_nop_while_waiting : (afterExec .nop (inState .xferWait {})).cmdErr = .badState := by decide
/-- FCS-4 and FCS-3: both sides of the size bound. -/
theorem test_start_size_bound :
    words (afterExec .start { inState .idle {} with payloadLen := 49980 }) = (0x00000011#32, 0x00000000#32) ∧
      words (afterExec .start { inState .idle {} with payloadLen := 49981 }) = (0x0000000D#32, 0x00000002#32) := by decide
/-- FCS-5. -/
theorem test_start_after_session : (afterExec .start (inState .completed {})).errorWord = 0x02000000#32 := by decide
/-- FCS-34. -/
theorem test_clear_after_timeout :
    words
      (afterExec .clear
        { inState .failed {} with err := .ackTimeout, failState := .xferWait, timer := 750, ackLatch := true }) =
      (0x00000000#32, 0x00000000#32) := by decide
/-- ENC-7: L = 200, packet 1. -/
theorem test_encode_second_packet :
    let t := afterExec (.encode 1) (inState .idle {})
    t.cksResult.word = 0x04290429#32 ∧ t.readFB 36 = 0x02#8 ∧ t.readFB 46 = 0xDE#8 ∧ t.readFB 50 = 0x00#8 ∧
      t.frameLen = 244 ∧ t.cmdErr = .ok := by decide +kernel
/-- ENC-8 and ENC-5. -/
theorem test_encode_out_of_range :
    (afterExec (.encode 2) (inState .idle {})).cmdErr = .index ∧
      (afterExec (.encode 0) { inState .idle {} with payloadLen := 49981 }).cmdErr = .index := by decide
/-- CKE-3 as a command (program P5, c3). -/
theorem test_cksum_two_bytes :
    (afterExec .cksum { idleWith .none with pb := [(0, 0xFF#8), (1, 0x01#8)], cksLen := 2 }).cksResult.word =
      0x01000100#32 := by decide
/-- CKS-2 and CKS-3. -/
theorem test_cksum_end_of_buffer :
    (afterExec .cksum { idleWith .none with cksAddr := 49980 }).cmdErr = .ok ∧
      (afterExec .cksum { idleWith .none with cksAddr := 49979, cksLen := 2 }).cmdErr = .range := by decide

/-! ### Host bus operations -/

/-- HIF-1, HIF-2, HIF-3, HIF-4. -/
theorem test_rd_offsets :
    [0x14#8, 0x02#8, 0x38#8, 0x00#8].map (fun off => (afterExec (.rd off) (idleWith .none)).out.hrdata) =
      [some 0x000002EE#32, some 0, some 0, some 0] := by decide
/-- HIF-7: the reserved bits are dropped. -/
theorem test_wr_drops_reserved_bits :
    let t := afterExec (.wr 0x0C#8 0x00010005#32) (idleWith .none)
    t.payloadLen = 5 ∧ t.readAt 0x10#8 = 0x00000001#32 := by decide
/-- HIF-5, HIF-6, HIF-8 and HIF-14. -/
theorem test_wr_refusals :
    (afterExec (.wr 0x38#8 1) (idleWith .none)).cmdErr = .badAddr ∧
      (afterExec (.wr 0x04#8 1) (idleWith .none)).cmdErr = .badAddr ∧
      (afterExec (.wr 0x0C#8 5) (inState .xferWait {})).cmdErr = .badState ∧
      (afterExec (.wr 0x00#8 0x000000FF#32) (inState .xferWait {})).cmdErr = .badOpcode := by decide
/-- HIF-10. -/
theorem test_wrb_then_rdb :
    let t := afterExec (.wrb 49979 0xAA#8) (idleWith .none)
    t.cmdErr = .ok ∧ (afterExec (.rdb 49979) t).out.hrdata = some 0x000000AA#32 := by decide
/-- HIF-11, HIF-17, HIF-18: RANGE before BAD_STATE. -/
theorem test_wrb_refusals :
    (afterExec (.wrb 49980 0xAA#8) (idleWith .none)).cmdErr = .range ∧
      (afterExec (.wrb 0 1) (inState .xferWait {})).cmdErr = .badState ∧
      (afterExec (.wrb 49980 1) (inState .xferWait {})).cmdErr = .range := by decide
/-- HIF-12. -/
theorem test_rdb_beyond_end : (afterExec (.rdb 49980) (idleWith .none)).out.hrdata = some 0 := by decide
/-- HIF-12, and R113's example. -/
theorem test_rdf_ends :
    (afterExec (.rdf 244) (idleWith .none)).out.hrdata = some 0 ∧
      (afterExec (.rdf 242) { idleWith .none with fb := [(242, 0x60#8)] }).out.hrdata = some 0x00000060#32 := by decide

/-! ### Frames -/

/-- PFE-1: the trailer of the data frame of TC0. -/
theorem test_data_trailer :
    let t := afterExec (.data 0 1 gifChunk) (inState .xferSend {})
    t.readFB 242 = 0x60#8 ∧ t.readFB 243 = 0x03#8 ∧ t.cksResult.word = 0x03600360#32 ∧ t.txCount = 1 := by decide +kernel
/-- PFE-6: TB counts CK (90_conflicts.md C3). -/
theorem test_trailer_counts_checksum :
    (frameChecksum tc0 0 1 (.ofFn fun k => if k.val = 0 then 0x92#8 else 0x00#8)).word = 0x01800280#32 := by decide +kernel
theorem test_reset1_issued :
    (afterExec .reset1 (inState .connected {})).out.txReq = some ⟨.reset1, 12, [0xA1#8], true⟩ := by decide
theorem test_reset2_issued :
    (afterExec .reset2 (inState .resetSettle {})).out.txReq = some ⟨.reset2, 12, [0xA2#8], true⟩ := by decide
theorem test_finalize_issued :
    (afterExec .finalize (inState .xferWait {})).out.txReq = some ⟨.finalize, 12, [0xF1#8], true⟩ := by decide

/-! ### One cycle of each state (the FCS vectors) -/

/-- FCS-6 and FCS-7. -/
theorem test_connecting :
    words (after (inState .connecting { connRsp := .ok })) = (0x00000052#32, 0x00000000#32) ∧
      words (after (inState .connecting { connRsp := .err })) = (0x0000000D#32, 0x00000103#32) := by decide
/-- FCS-10, FCS-11 and FCS-13. -/
theorem test_subscribing :
    words (after (inState .subscribing { subRsp0 := .ok, subRsp1 := .ok })) = (0x000001D3#32, 0x00000000#32) ∧
      words (after (inState .subscribing { subRsp1 := .ok })) = (0x00000152#32, 0x00000000#32) ∧
      words (after (inState .subscribing { subRsp0 := .ok, subRsp1 := .err })) = (0x0000000D#32, 0x00000204#32) := by
  decide
/-- FCS-14, FCS-15 and FCS-16. -/
theorem test_first_reset_write :
    words (after (inState .connected {})) = (0x000001D4#32, 0x00000000#32) ∧
      words (after (inState .resetWr1 { txDone := .ok })) = (0x000001D5#32, 0x00000000#32) ∧
      words (after (inState .resetWr1 { txDone := .err })) = (0x0000018D#32, 0x00000405#32) := by decide
/-- FCS-17, FCS-18 and FCS-19: the limit tick. -/
theorem test_settle :
    (after { inState .resetSettle { tick := true } with timer := 498 }).timer = 499 ∧
      (after { inState .resetSettle { tick := true } with timer := 499 }).statusWord = 0x000001D6#32 ∧
      (after { inState .resetSettle { tick := true } with settleDelay := 0 }).timer = 1 := by decide
/-- FCS-21 and FCS-24. -/
theorem test_second_reset_and_data_write :
    (after (inState .resetWr2 { txDone := .ok })).statusWord = 0x000001D7#32 ∧
      (after { inState .xferWr { txDone := .ok } with timer := 9 }).timer = 0 := by decide
/-- FCS-22 and FCS-23: the latch after the send, and FCS-38: the read of the same cycle. -/
theorem test_send :
    (after { inState .xferSend {} with ackLatch := true }).statusWord = 0x000001D8#32 ∧
      (after (inState .xferSend { ntf1 := true })).statusWord = 0x000001F8#32 ∧
      (after (inState .xferSend { hop := .rd 0x04#8 })).out.hrdata = some 0x000001D7#32 := by decide +kernel
/-- FCS-26, FCS-28 and FCS-29: the acknowledgment, the timeout, and both at once. -/
theorem test_wait :
    (after { inState .xferWait {} with ackLatch := true }).statusWord = 0x000101F7#32 ∧
      words (after { inState .xferWait { tick := true } with timer := 749 }) = (0x0000018D#32, 0x00000906#32) ∧
      (after { inState .xferWait { tick := true, ntf0 := true } with timer := 749 }).timer = 749 := by decide
/-- FCS-27, FCS-31, FCS-32 and FCS-33. -/
theorem test_finalizing :
    (after { inState .xferWait { ntf0 := true } with idx := 1 }).statusWord = 0x000101FA#32 ∧
      (after { inState .finWr1 { txDone := .ok } with idx := 1 }).statusWord = 0x000101DB#32 ∧
      words (after { inState .finWr2 { txDone := .ok } with idx := 1 }) = (0x0001018C#32, 0x00000000#32) ∧
      words (after { inState .finWr2 { txDone := .err } with idx := 1 }) = (0x0001018D#32, 0x00010B05#32) := by decide
/-- FCS-36 and FCS-37. -/
theorem test_reset_and_idle_latch :
    words (after { inState .xferWr { rst := true, txDone := .ok } with idx := 1 }) = (0x00000000#32, 0x00000000#32) ∧
      (after { inState .xferWr { rst := true, txDone := .ok } with idx := 1 }).out.discReq = false ∧
      (after (inState .idle { ntf0 := true })).statusWord = 0x00000020#32 := by decide

/-- R55, D21: with source 1 up, a second answer of it is ignored, and an ERR of source 0 still fails. -/
theorem test_second_answer_ignored :
    (after { inState .subscribing { subRsp1 := .err } with subOk := 0b10#2 }).statusWord = 0x00000152#32 ∧
      (after { inState .subscribing { subRsp0 := .ok, subRsp1 := .err } with subOk := 0b10#2 }).statusWord =
        0x000001D3#32 ∧
      (after { inState .subscribing { subRsp0 := .err } with subOk := 0b10#2 }).errorWord = 0x00000204#32 := by decide
/-- R55: a first answer of a source is awaited, a second one is not, and neither is an answer in SUBSCRIBING to a write. -/
theorem test_extra_answers :
    answersAwaited { inState .subscribing {} with subOk := 0b10#2 } { subRsp0 := .err } = true ∧
      answersAwaited { inState .subscribing {} with subOk := 0b10#2 } { subRsp1 := .err } = false ∧
      answersAwaited (inState .subscribing {}) { txDone := .ok } = false := by decide

/-! ### Host programs (R72, R73) -/

theorem test_program_text :
    readProgram "wr PAYLOAD_LEN, 0x00C8 # N = 2\n\ncmd ENCODE, 1 ; tick ; tx=err\nticks 2 ; ntf0\nload 1, [0xDE, 7]".toList =
      some
        [{ hop := .wr 0x0C#8 200 }, { hop := .wr 0x00#8 0x00000103#32, tick := true, txDone := .err }, { tick := true },
          { tick := true, ntf0 := true }, { hop := .wrb 1 0xDE#8 }, { hop := .wrb 2 7#8 }] := by decide +kernel
/-- R8: the three forms of a number. -/
theorem test_program_numbers :
    readProgram "wr INT_CTRL, 0b1\nrdf 0b11110010\nwrb 0xC33B, 170".toList =
      some [{ hop := .wr 0x30#8 1 }, { hop := .rdf 242 }, { hop := .wrb 49979 0xAA#8 }] := by decide +kernel
/-- Both answers at once; a digit that is no binary one; operands R73 expands no form of (log 30). -/
theorem test_program_refusals :
    ["; conn=ok ; conn=err", "rdf 0b2", "cmd START, 1", "cmd ENCODE"].all fun t => readProgram t.toList == none := by
  decide +kernel

/-! ### The end of a run (R143) -/

/-- NCH-1: START with L = 0 fails at once, so the run ends at the next cycle with InvalidFormat. -/
theorem test_end_after_start :
    let s := { idleWith .none with inputs := [{ hop := .wr 0x00#8 1 }] }
    endCycleOf 1 s = some 1 ∧ outcomeOf 1 s = some .invalidFormat := by decide
/-- A START refused in FAILED has no end of run, and neither has a run with `rst` after its START or without one. -/
theorem test_no_end :
    let start : CycleIn := { hop := .wr 0x00#8 1 }
    endCycleOf 2 { idleWith .none with inputs := [start, start] } = none ∧
      endCycleOf 2 { idleWith .none with inputs := [start, { rst := true }] } = none ∧
      endCycleOf 1 (inState .completed {}) = none := by decide

/-! ### Witnesses: each statement's hypotheses, all of them together, at the ends of their ranges -/

/-- A busy state that meets the session invariant: XFER_WAIT with packet 1 of 2 outstanding and 749 ticks counted. -/
def waiting (c : CycleIn) : State := { inState .xferWait c with idx := 1, timer := 749, txCount := 4 }

theorem waiting_session : SessionInv (waiting { tick := true }) := by constructor <;> decide

/-- COMPLETED after two packets. -/
def completed (c : CycleIn) : State := { inState .completed c with idx := 1, txCount := 6 }

theorem completed_session : SessionInv (completed {}) := by constructor <;> decide

/-- RESET_SETTLE one tick before the limit. -/
def settling : State := { inState .resetSettle { tick := true } with timer := 499, txCount := 1 }

theorem settling_session : SessionInv settling := by constructor <;> decide

theorem witness_DecodeOfEncodeIsTheInstruction :
    (Instr.data 254 255 gifChunk).wellFormed = true ∧ (Instr.encode 255).wellFormed = true ∧
      (Instr.wr 0x00#8 0x00000005#32).wellFormed = true ∧ Instr.finalize.wellFormed = true := by decide
theorem witness_EncodeOfDecodeIsTheCode :
    decode tc1 (.frame .data pfe2) = .ok (.data 0 1 gifChunk) ∧
      decode tc0 (.bus (.wr 0x00#8 0x0000FF03#32)) = .ok (.encode 255) := by decide +kernel
theorem witness_IllegalCommandWordOnlySetsBadOpcode :
    5 ≤ ((0x00000005#32 : Word).extractLsb' 0 8).toNat ∧ (0x00010000#32 : Word).extractLsb' 16 16 ≠ 0#16 ∧
      ((0x00000101#32 : Word).extractLsb' 0 8 ≠ 3#8 ∧ (0x00000101#32 : Word).extractLsb' 8 8 ≠ 0#8) := by decide
theorem witness_FramesOfASessionDifferOnlyInIndexChunkTrailer :
    (0 < 46 ∧ 0 ≠ 5 ∧ 0 ≠ 37) ∧ (45 < 46 ∧ 45 ≠ 5 ∧ 45 ≠ 37) := by decide
theorem witness_StartChecksTheSizeThenConnects :
    (completed {}).st ≠ .idle ∧ (inState .idle {}).st = .idle ∧ (inState .idle {}).connUp = false ∧
      (inState .idle {}).idx = 0 := by decide
theorem witness_ClearReturnsToIdle :
    (waiting {}).busy = true ∧ SessionInv (completed {}) ∧ (completed {}).busy = false :=
  ⟨by decide, completed_session, by decide⟩
/-- In range with the last packet of the largest session; out of range by index and by count; busy. -/
theorem witness_EncodeFillsTheFrameBufferOrReportsIndex :
    (waiting {}).busy = true ∧
      ((inState .idle {}).busy = false ∧ 255 < (49981 + 195) / 196) ∧
      ((inState .idle {}).busy = false ∧ (200 + 195) / 196 ≤ (2#8).toNat) ∧
      ((inState .idle {}).busy = false ∧ (49980 + 195) / 196 ≤ 255 ∧ (254#8).toNat < (49980 + 195) / 196) := by decide
theorem witness_CksumReducesTheRangeOrReportsRange :
    (waiting {}).busy = true ∧ (completed {}).busy = false ∧ 49980 < (49979#16).toNat + (2#16).toNat ∧
      (49980#16).toNat + (0#16).toNat ≤ 49980 := by decide
theorem witness_ReadDrivesTheRegisterWord :
    (0x02#8).toNat % 4 ≠ 0 ∧ 0x38 ≤ (0x38#8).toNat ∧ (0x00#8).toNat = 0x00 := by decide
theorem witness_WriteReachesOnlyTheNamedField :
    (0x37#8).toNat % 4 ≠ 0 ∧ 0x38 ≤ (0xFC#8).toNat ∧ 0x34#8 ∈ [0x04#8, 0x08#8, 0x10#8, 0x1C#8, 0x28#8, 0x2C#8, 0x34#8] ∧
      (waiting {}).busy = true ∧ 0x18#8 ∈ [0x0C#8, 0x14#8, 0x18#8] ∧ (completed {}).busy = false := by decide
theorem witness_WriteByteStoresOnePayloadByte :
    49980 ≤ (49980#16).toNat ∧ (49979#16).toNat < 49980 ∧ (waiting {}).busy = true ∧ (completed {}).busy = false := by
  decide
theorem witness_DataFrameIsStoredAndIssued :
    ((255#9).toNat ≤ 255 ∧ (254#8).toNat < (255#9).toNat) ∧ 255 < (256#9).toNat ∧ (1#9).toNat ≤ (1#8).toNat := by decide
theorem witness_ResetCycleResetsEverything : (waiting { rst := true, txDone := .ok }).input.rst = true := by decide
theorem witness_StepRunsTheDecodedInstruction :
    (waiting { hop := .rd 0x04#8 }).input.rst = false ∧
      decodeBus (waiting { hop := .rd 0x04#8 }).input.hop = .ok (.rd 0x04#8) := by decide
/-- The latch: a send in range, an executed START, an executed CLEAR, and neither. -/
theorem witness_AckLatchUpdate :
    (inState .xferSend {}).input.rst = false ∧
      ((inState .xferSend {}).st = .xferSend ∧ (inState .xferSend {}).idx.toNat < (inState .xferSend {}).nchunk.toNat ∧
        (inState .xferSend {}).nchunk.toNat ≤ 255) ∧
      ((idleWith (.wr 0x00#8 1)).st = .idle ∧ (idleWith (.wr 0x00#8 1)).input.hop = .wr 0x00#8 0x00000001#32) ∧
      ((idleWith (.wr 0x00#8 2)).busy = false ∧ (idleWith (.wr 0x00#8 2)).input.hop = .wr 0x00#8 0x00000002#32) ∧
      (∃ t, step (waiting { ntf0 := true }) = .next t) :=
  ⟨by decide, by decide, by decide, by decide, after (waiting { ntf0 := true }), rfl⟩
theorem witness_StableStatesRunNoRule :
    (completed { ntf0 := true }).busy = false ∧ (completed { ntf0 := true }).input.rst = false ∧
      ∃ u, hostPart (completed { ntf0 := true }) = .next u := ⟨by decide, by decide, _, rfl⟩
theorem witness_BusyHostWritesOnlyUnlockedFields :
    (waiting { hop := .wr 0x20#8 7 }).busy = true ∧ ∃ u, hostPart (waiting { hop := .wr 0x20#8 7 }) = .next u :=
  ⟨by decide, afterExec (.wr 0x20#8 7) (waiting { hop := .wr 0x20#8 7 }).beginCycle, rfl⟩
theorem witness_PayloadAndLimitsConstantWhileBusy :
    (waiting { hop := .wrb 0 1 }).busy = true ∧ (waiting { hop := .wrb 0 1 }).input.rst = false ∧
      ∃ t, step (waiting { hop := .wrb 0 1 }) = .next t :=
  ⟨by decide, by decide, after (waiting { hop := .wrb 0 1 }), rfl⟩
theorem witness_ConnectingTakesTheConnectAnswer :
    (inState .connecting { connRsp := .ok }).st = .connecting ∧ (inState .connecting { connRsp := .ok }).connUp = false ∧
      (inState .connecting { connRsp := .ok }).input.rst = false ∧
      ∃ u, hostPart (inState .connecting { connRsp := .ok }) = .next u := ⟨by decide, by decide, by decide, _, rfl⟩
/-- A failure; no failure as no ERR comes; no failure as the ERR is an extra answer. -/
theorem witness_SubscribingWaitsForBothAnswers :
    (inState .subscribing { subRsp1 := .err }).st = .subscribing ∧
      (inState .subscribing { subRsp1 := .err }).input.rst = false ∧
      (inState .subscribing { subRsp1 := .err }).input.subRsp1 = .err ∧
      (inState .subscribing { subRsp1 := .err }).subOk.getLsbD 1 = false ∧
      { inState .subscribing { subRsp1 := .err } with subOk := 0b10#2 }.subOk.getLsbD 1 = true ∧
      (inState .subscribing { subRsp1 := .ok }).input.subRsp0 ≠ .err ∧
      (inState .subscribing { subRsp1 := .ok }).input.subRsp1 ≠ .err ∧
      ∃ u, hostPart (inState .subscribing { subRsp1 := .err }) = .next u :=
  ⟨by decide, by decide, by decide, by decide, by decide, by decide, by decide, _, rfl⟩
theorem witness_ConnectedIssuesReset1 :
    (inState .connected {}).st = .connected ∧ (inState .connected {}).input.rst = false ∧
      ∃ u, hostPart (inState .connected {}) = .next u := ⟨by decide, by decide, _, rfl⟩
/-- Each of the three states with each answer. -/
theorem witness_WriteStatesWaitForTxDone :
    ([SeqState.resetWr1, .resetWr2, .xferWr].all fun st => [Rsp.none, .ok, .err].all fun r =>
      (inState st { txDone := r }).st == st && (inState st { txDone := r }).input.txDone == r &&
        !(inState st { txDone := r }).input.rst) = true ∧
      ∃ u, hostPart (inState .xferWr { txDone := .ok }) = .next u := ⟨by decide, _, rfl⟩
/-- No tick; a tick one before the last; the last; and the first with a limit of 0. -/
theorem witness_ResetSettleIssuesReset2OnTheLimitTick :
    settling.st = .resetSettle ∧ settling.input.rst = false ∧ settling.input.tick = true ∧
      settling.settleDelay.toNat ≤ settling.timer.toNat + 1 ∧
      ({ settling with timer := 498 } : State).timer.toNat + 1 < settling.settleDelay.toNat ∧
      ({ settling with timer := 0, settleDelay := 0 } : State).settleDelay.toNat ≤ 0 + 1 ∧
      (inState .resetSettle {}).input.tick = false ∧ ∃ u, hostPart settling = .next u :=
  ⟨by decide, by decide, by decide, by decide, by decide, by decide, by decide, _, rfl⟩
/-- The last index in range, and the first out of it (a state no run reaches). -/
theorem witness_XferSendIssuesThePacket :
    ({ inState .xferSend {} with idx := 1 } : State).nchunk.toNat ≤ 255 ∧
      ({ inState .xferSend {} with idx := 1 } : State).idx.toNat < (inState .xferSend {}).nchunk.toNat ∧
      (inState .xferSend {}).nchunk.toNat ≤ ({ inState .xferSend {} with idx := 2 } : State).idx.toNat ∧
      255 < ({ inState .xferSend {} with payloadLen := 49981 } : State).nchunk.toNat ∧
      (inState .xferSend {}).st = .xferSend ∧ (inState .xferSend {}).input.rst = false ∧
      ∃ u, hostPart (inState .xferSend {}) = .next u :=
  ⟨by decide, by decide, by decide, by decide, by decide, by decide, _, rfl⟩
/-- Acknowledged at the last and at an earlier packet; no tick; a tick before and at the limit. -/
theorem witness_XferWaitTakesAckThenTick :
    (waiting {}).st = .xferWait ∧ (waiting { ntf1 := true }).input.rst = false ∧
      (waiting { ntf1 := true }).input.ntf1 = true ∧ (waiting {}).idx.toNat + 1 = (waiting {}).nchunk.toNat ∧
      (inState .xferWait {}).idx.toNat + 1 ≠ (inState .xferWait {}).nchunk.toNat ∧
      ((waiting { tick := true }).ackLatch || (waiting { tick := true }).input.ntf0 ||
        (waiting { tick := true }).input.ntf1) = false ∧
      (waiting { tick := true }).input.tick = true ∧
      (waiting { tick := true }).ackTimeout.toNat ≤ (waiting { tick := true }).timer.toNat + 1 ∧
      ({ waiting { tick := true } with timer := 748 } : State).timer.toNat + 1 < (waiting {}).ackTimeout.toNat ∧
      (waiting {}).input.tick = false ∧ ∃ u, hostPart (waiting { tick := true }) = .next u :=
  ⟨by decide, by decide, by decide, by decide, by decide, by decide, by decide, by decide, by decide, by decide, _, rfl⟩
theorem witness_FinalizeTwiceThenComplete :
    ([SeqState.finWr1, .finWr2].all fun st => [Rsp.none, .ok, .err].all fun r =>
      (inState st { txDone := r }).st == st && (inState st { txDone := r }).input.txDone == r &&
        !(inState st { txDone := r }).input.rst) = true ∧
      ∃ u, hostPart (inState .finWr2 { txDone := .ok }) = .next u := ⟨by decide, _, rfl⟩
theorem witness_StateFollowsTheSessionPath :
    SessionInv (waiting { tick := true }) ∧ (waiting { tick := true }).input.rst = false ∧
      ∃ t, step (waiting { tick := true }) = .next t :=
  ⟨waiting_session, by decide, after (waiting { tick := true }), rfl⟩
theorem witness_StableStatesLeftOnlyByCommand :
    (idleWith (.wr 0x00#8 1)).busy = false ∧
      ∃ t, step (idleWith (.wr 0x00#8 1)) = .next t ∧ t.st ≠ (idleWith (.wr 0x00#8 1)).st :=
  ⟨by decide, after (idleWith (.wr 0x00#8 1)), rfl, by decide⟩
theorem witness_ReadsNeverTouchTheCommandStatus :
    (idleWith (.rd 0x02#8)).input.rst = false ∧ (∃ t, step (idleWith (.rd 0x02#8)) = .next t) ∧
      (∀ off d, (idleWith (.rd 0x02#8)).input.hop ≠ .wr off d) ∧ ∀ a b, (idleWith (.rd 0x02#8)).input.hop ≠ .wrb a b :=
  ⟨by decide, ⟨_, rfl⟩, fun _ _ => by simp [idleWith, State.input], fun _ _ => by simp [idleWith, State.input]⟩
theorem witness_AtMostOneFrameOutstanding :
    settling.input.rst = false ∧ ∃ t, step settling = .next t ∧ t.out.txReq.isSome = true :=
  ⟨by decide, after settling, rfl, by decide⟩
theorem witness_DisconnectExactlyWhenReleased :
    SessionInv (waiting { tick := true }) ∧ (waiting { tick := true }).input.rst = false ∧
      ∃ t, step (waiting { tick := true }) = .next t ∧ t.out.discReq = true :=
  ⟨waiting_session, by decide, after (waiting { tick := true }), rfl, by decide⟩
theorem witness_IndexOutOfRangeIsNeverRaised :
    SessionInv (waiting { tick := true }) ∧ (waiting { tick := true }).err ≠ .indexOutOfRange ∧
      ∃ t, step (waiting { tick := true }) = .next t :=
  ⟨waiting_session, by decide, after (waiting { tick := true }), rfl⟩
theorem witness_ParametersNeverChange : ∃ t, step (waiting { rst := true }) = .next t := ⟨_, rfl⟩
theorem witness_StepKeepsMemoryCanonical :
    MemoryInv (idleWith (.wrb 49979 0)) ∧ ∃ t, step (idleWith (.wrb 49979 0)) = .next t :=
  ⟨⟨by decide, by decide⟩, after (idleWith (.wrb 49979 0)), rfl⟩
theorem witness_StepKeepsSessionInvariant : SessionInv settling ∧ ∃ t, step settling = .next t :=
  ⟨settling_session, after settling, rfl⟩
theorem witness_StepKeepsFrameBufferValid :
    FrameInv { waiting {} with frameLen := 244, fb := Memory.ofBytes 0 (List.replicate 244 0x00#8) } ∧
      ∃ t, step { waiting {} with frameLen := 244, fb := Memory.ofBytes 0 (List.replicate 244 0x00#8) } = .next t :=
  ⟨.inr ⟨rfl, fun k hk => by
    simp only [Machine.Memory.read_ofBytes]
    rw [List.getElem?_eq_getElem (List.length_replicate ▸ hk)]
    rfl⟩, after { waiting {} with frameLen := 244, fb := Memory.ofBytes 0 (List.replicate 244 0x00#8) }, rfl⟩
/-- A limit of 2: a tick, a cycle without one, and the second tick. -/
theorem witness_AckTimeoutOnExactlyTheLimitTick :
    let s : State := { inState .xferWait {} with ackTimeout := 2, inputs := [{ tick := true }, {}] ++ [{ tick := true }] }
    let quiet : List CycleIn := [{ tick := true }, {}]
    s.st = .xferWait ∧ s.timer = 0 ∧ s.ackLatch = false ∧ s.inputs = quiet ++ { tick := true } :: [] ∧
      (∀ c ∈ quiet, silent c = true) ∧ silent { tick := true } = true ∧
      tickCount quiet + 1 = max s.ackTimeout.toNat 1 := by decide
/-- A limit of 0: the first tick. -/
theorem witness_AckTimeoutOnExactlyTheLimitTick_zero :
    let s : State := { inState .xferWait { tick := true } with ackTimeout := 0 }
    s.st = .xferWait ∧ s.timer = 0 ∧ s.ackLatch = false ∧ s.inputs = [] ++ { tick := true } :: [] ∧
      tickCount [] + 1 = max s.ackTimeout.toNat 1 := by decide
/-- The largest payload and the reset value of the settling delay. -/
theorem witness_FastSessionUploadsThePayload :
    let s : State := { idleWith .none with payloadLen := 49980, inputs := fastSession 500 255 }
    s.st = .idle ∧ 1 ≤ s.payloadLen.toNat ∧ s.payloadLen.toNat ≤ 49980 ∧
      s.inputs = fastSession s.settleDelay.toNat ((s.payloadLen.toNat + 195) / 196) ++ [] :=
  ⟨rfl, by decide, by decide, (List.append_nil _).symm⟩

end Sys2Proof.Tests
end

section
/-! The scope statements (00_scope.md): the parameters of R6. No operation of the model writes them, so neither part of a
cycle does: the host's operation and the sequencer's rule each have their own lemma. -/

namespace Sys2Proof.Machine

open Sys2Proof.Safety

/-! ### The host's part of a cycle -/

@[simp] theorem State.plainWrites_params (s : State) (c : CmdErr) (len ta sd a l : Half) (e : Bool) (m : Memory)
    (r : Option Word) : (s.plainWrites c len ta sd a l e m r).params = s.params := rfl

@[simp] theorem State.beginSession_params (s : State) : s.beginSession.params = s.params := by
  obtain ⟨-, h⟩ | ⟨-, -, h⟩ | ⟨-, -, h⟩ := s.beginSession_cases <;> simp [h]

theorem hostPart_params (s u : State) (hu : hostPart s = .next u) : u.params = s.params := by
  cases hb : s.busy with
  | true =>
    obtain ⟨c, a, l, e, r, rfl⟩ := hostPart_busy s u hb hu
    simp
  | false =>
    obtain ⟨c, len, ta, sd, a, l, e, m, r, rfl, -⟩ | ⟨arg, -, rfl⟩ | ⟨q, rfl⟩ | ⟨-, -, rfl⟩ | ⟨-, rfl⟩ :=
      hostPart_stable s u hb hu <;> simp

/-! ### The sequencer's part of a cycle -/

theorem sequencerRule_params (st : SeqState) (s v : State) (hv : sequencerRule st s = .next v) :
    v.params = s.params := by
  cases st with
  | idle | connected | completed | failed => cases hv; rfl
  | connecting => rw [sequencerRule, ruleConnecting_eq] at hv; cases hv; split <;> simp
  | subscribing => rw [sequencerRule, ruleSubscribing_eq] at hv; cases hv; split_ifs <;> simp
  | resetWr1 => rw [sequencerRule, ruleResetWr1_eq] at hv; cases hv; split <;> simp
  | resetSettle => rw [sequencerRule, ruleResetSettle_eq] at hv; cases hv; split_ifs <;> simp
  | resetWr2 => rw [sequencerRule, ruleResetWr2_eq] at hv; cases hv; split <;> simp
  | xferSend => rw [sequencerRule, ruleXferSend_eq] at hv; cases hv; split_ifs <;> simp
  | xferWr => rw [sequencerRule, ruleXferWr_eq] at hv; cases hv; split <;> simp
  | xferWait => rw [sequencerRule, ruleXferWait_eq] at hv; cases hv; split_ifs <;> simp
  | finWr1 => rw [sequencerRule, ruleFinWr1_eq] at hv; cases hv; split <;> simp
  | finWr2 => rw [sequencerRule, ruleFinWr2_eq] at hv; cases hv; split <;> simp

/-- Settles O54: a reset cycle takes the parameters over, and neither part of any other cycle writes them. -/
theorem parametersNeverChange : Obligations.ParametersNeverChange := by
  unfold Obligations.ParametersNeverChange
  intro s t h
  obtain ⟨-, rfl⟩ | ⟨-, u, v, hu, hv, rfl⟩ := step_cases s t h
  · rfl
  · calc v.endCycle.params = v.params := v.endCycle_params
      _ = u.params := sequencerRule_params s.st u v hv
      _ = s.params := hostPart_params s u hu

end Sys2Proof.Machine
end

section
/-! The codes and register words (10_state.md R15, R25, R26): what a field of a word reads at its own place and elsewhere. -/

namespace Sys2Proof.Machine

/-! ### The codes -/

/-- Settles O26 by evaluating the three tables. -/
theorem codesOfStatesAndErrors : Obligations.CodesOfStatesAndErrors := ⟨rfl, rfl, rfl⟩

/-! ### The register words -/

theorem getLsbD_fieldAt {n : Nat} (k j : Nat) (v : BitVec n) (hj : j < 32) :
    (fieldAt k v).getLsbD j = (decide (k ≤ j) && v.getLsbD (j - k)) := by
  have hjk : j - k < 32 := by omega
  simp only [fieldAt, BitVec.getLsbD_shiftLeft, BitVec.getLsbD_setWidth, hj, hjk, decide_true, Bool.true_and]
  by_cases hk : k ≤ j
  · simp [hk, Nat.not_lt.mpr hk]
  · simp [hk, Nat.lt_of_not_le hk]

theorem getElem_fieldAt {n : Nat} (k j : Nat) (v : BitVec n) (hj : j < 32) :
    (fieldAt k v)[j] = (decide (k ≤ j) && v.getLsbD (j - k)) := getLsbD_fieldAt k j v hj

/-- A field read where it stands is the field. -/
theorem extractLsb'_fieldAt_same {n : Nat} (k : Nat) (v : BitVec n) (h : k + n ≤ 32) :
    (fieldAt k v).extractLsb' k n = v := by
  ext j hj
  simp [getLsbD_fieldAt k (k + j) v (by omega), hj]

/-- A field read elsewhere is 0. -/
theorem extractLsb'_fieldAt_apart {n : Nat} (k a m : Nat) (v : BitVec n) (hw : a + m ≤ 32)
    (h : a + m ≤ k ∨ k + n ≤ a) : (fieldAt k v).extractLsb' a m = 0#m := by
  ext j hj
  rw [BitVec.getElem_extractLsb', getLsbD_fieldAt k (a + j) v (by omega)]
  obtain h | h := h
  · simp [show ¬k ≤ a + j by omega]
  · simp [BitVec.getLsbD_of_ge v (a + j - k) (by omega)]

theorem State.busy_iff (s : State) : s.busy = true ↔ s.st ≠ .idle ∧ s.st ≠ .completed ∧ s.st ≠ .failed := by
  cases hs : s.st <;> simp [State.busy_eq, hs, SeqState.stable]

/-- Settles O27: of the fields that STATUS joins, only the one that stands at a place shows there. -/
theorem statusWordFields : Obligations.StatusWordFields := by
  unfold Obligations.StatusWordFields
  intro s w
  refine ⟨?_, ?_, ?_, ?_, ?_, ?_, ?_, ?_, s.busy_iff, rfl⟩
  all_goals
    simp (disch := omega) [w, State.statusWord, BitVec.extractLsb'_or, getElem_fieldAt, extractLsb'_fieldAt_same,
      extractLsb'_fieldAt_apart, BitVec.getLsbD_of_ge]

/-- Settles O28: of the fields that ERROR joins, only the one that stands at a place shows there. -/
theorem errorWordFields : Obligations.ErrorWordFields := by
  unfold Obligations.ErrorWordFields
  intro s w
  refine ⟨?_, ?_, ?_, ?_, ?_, ?_, ?_⟩
  all_goals
    simp (disch := omega) [w, State.errorWord, BitVec.extractLsb'_or, extractLsb'_fieldAt_same,
      extractLsb'_fieldAt_apart]

end Sys2Proof.Machine
end

section
/-! The frame buffer (20_memory.md R40, 41_frame_encoder.md R86): the only write to FB and FRAME_LEN is that of a whole data
frame. -/

namespace Sys2Proof.Machine

open Sys2Proof.Safety

variable {s t u v : State} {st : SeqState}

/-- What the parts of a cycle do to FB and FRAME_LEN: they leave both, or store a data frame (R85, R86). -/
def FrameKeptOrStored (s t : State) : Prop :=
  (t.frameLen = s.frameLen ∧ t.fb = s.fb) ∨
    (t.frameLen = 244 ∧ ∃ p i n c, t.fb = Memory.ofBytes 0 (dataFrame p i n c))

theorem frameInv_of_keptOrStored (h : FrameInv s) (ht : FrameKeptOrStored s t) : FrameInv t := by
  obtain ⟨hlen, hfb⟩ | ⟨hlen, p, i, n, c, hfb⟩ := ht
  · simpa only [FrameInv, hlen, hfb] using h
  · refine .inr ⟨hlen, fun k hk => ?_⟩
    rw [hfb, Memory.read_ofBytes, List.getElem?_eq_getElem (by simpa using hk)]
    rfl

theorem hostPart_frame (hu : hostPart s = .next u) : FrameKeptOrStored s u := by
  cases hb : s.busy with
  | true =>
    obtain ⟨c, a, l, e, r, rfl⟩ := hostPart_busy s u hb hu
    exact .inl ⟨rfl, rfl⟩
  | false =>
    obtain ⟨c, len, ta, sd, a, l, e, m, r, rfl, -⟩ | ⟨arg, -, rfl⟩ | ⟨q, rfl⟩ | ⟨-, -, rfl⟩ | ⟨-, rfl⟩ :=
      hostPart_stable s u hb hu
    · exact .inl ⟨rfl, rfl⟩
    · exact .inr ⟨rfl, _, _, _, _, rfl⟩
    · exact .inl ⟨rfl, rfl⟩
    · obtain ⟨-, h⟩ | ⟨-, -, h⟩ | ⟨-, -, h⟩ := s.beginCycle.beginSession_cases <;> rw [h] <;> exact .inl (by simp)
    · exact .inl ⟨rfl, rfl⟩

theorem sequencerRule_frame (hv : sequencerRule st s = .next v) : FrameKeptOrStored s v := by
  cases st with
  | idle | connected | completed | failed => cases hv; exact .inl ⟨rfl, rfl⟩
  | connecting => rw [sequencerRule, ruleConnecting_eq] at hv; cases hv; left; split <;> simp
  | subscribing => rw [sequencerRule, ruleSubscribing_eq] at hv; cases hv; left; split_ifs <;> simp
  | resetWr1 => rw [sequencerRule, ruleResetWr1_eq] at hv; cases hv; left; split <;> simp
  | resetSettle => rw [sequencerRule, ruleResetSettle_eq] at hv; cases hv; left; split_ifs <;> simp
  | resetWr2 => rw [sequencerRule, ruleResetWr2_eq] at hv; cases hv; left; split <;> simp
  | xferSend =>
    rw [sequencerRule, ruleXferSend_eq] at hv; cases hv; split
    · exact .inr ⟨rfl, _, _, _, _, rfl⟩
    · exact .inl (by simp)
  | xferWr => rw [sequencerRule, ruleXferWr_eq] at hv; cases hv; left; split <;> simp
  | xferWait => rw [sequencerRule, ruleXferWait_eq] at hv; cases hv; left; split_ifs <;> simp
  | finWr1 => rw [sequencerRule, ruleFinWr1_eq] at hv; cases hv; left; split <;> simp
  | finWr2 => rw [sequencerRule, ruleFinWr2_eq] at hv; cases hv; left; split <;> simp

/-- Settles O57: neither part of a cycle writes FB or FRAME_LEN except by storing a whole data frame. -/
theorem stepKeepsFrameBufferValid : Obligations.StepKeepsFrameBufferValid := by
  unfold Obligations.StepKeepsFrameBufferValid
  intro s t h hstep
  obtain ⟨-, rfl⟩ | ⟨-, u, v, hu, hv, rfl⟩ := step_cases s t hstep
  · exact .inl rfl
  · have afterHost : FrameInv u := frameInv_of_keptOrStored h (hostPart_frame hu)
    have afterRule : FrameInv v := frameInv_of_keptOrStored afterHost (sequencerRule_frame hv)
    exact frameInv_of_keptOrStored afterRule (.inl ⟨rfl, rfl⟩)

end Sys2Proof.Machine
end

section
/-! The session invariant. `LiveInv st` is the invariant of a state known to be in `st`, its clauses computed for that state,
so that a transition between two states is one list of facts, most of them carried over; FAILED has its own lemma. -/

namespace Sys2Proof.Machine

open Sys2Proof.Safety

/-! ### What holds in each state -/

/-- Where IDX stands, of N chunks, in each state of a session (R16, R100, R106). -/
def idxFits (st : SeqState) (i n : Nat) : Prop :=
  match st with
  | .idle | .connecting | .subscribing | .connected | .resetWr1 | .resetSettle | .resetWr2 => i = 0
  | .xferSend | .xferWr | .xferWait => i < n
  | .finWr1 | .finWr2 => i + 1 = n
  | .completed | .failed => i ≤ 254

/-- What SUB_OK may be in each state of a session (R19, R93). -/
def subOkFits (st : SeqState) (v : BitVec 2) : Prop :=
  match st with
  | .idle | .failed => True
  | .connecting => v = 0b00#2
  | .subscribing => v ≠ 0b11#2
  | .connected | .resetWr1 | .resetSettle | .resetWr2 | .xferSend | .xferWr | .xferWait | .finWr1 | .finWr2
  | .completed => v = 0b11#2

/-- In the two timed states TIMER is below the limit it is counted against (R17, R96, R100). -/
def timerFits (st : SeqState) (timer settle ack : Nat) : Prop :=
  match st with
  | .resetSettle => timer < max settle 1
  | .xferWait => timer < max ack 1
  | .idle | .connecting | .subscribing | .connected | .resetWr1 | .resetWr2 | .xferSend | .xferWr | .finWr1 | .finWr2
  | .completed | .failed => True

theorem idxFits_iff (st : SeqState) (i n : Nat) :
    idxFits st i n ↔
      (transferring st = true → i < n) ∧ (transferring.finalizing st = true → i + 1 = n) ∧
        (beforeTransfer st = true → i = 0) ∧ (st.stable = true → i ≤ 254) := by
  cases st <;> simp [idxFits, transferring, transferring.finalizing, beforeTransfer, SeqState.stable] <;> omega

theorem subOkFits_iff (st : SeqState) (v : BitVec 2) :
    subOkFits st v ↔
      (subscribed st = true → v = 0b11#2) ∧ (st = .subscribing → v ≠ 0b11#2) ∧ (st = .connecting → v = 0b00#2) := by
  cases st <;> simp [subOkFits, subscribed]

theorem timerFits_iff (st : SeqState) (timer settle ack : Nat) :
    timerFits st timer settle ack ↔
      (st = .resetSettle → timer < max settle 1) ∧ (st = .xferWait → timer < max ack 1) := by
  cases st <;> simp [timerFits]

theorem framesIssued_le (st : SeqState) (i : Nat) : framesIssued st i ≤ i + 5 := by
  cases st <;> simp [framesIssued]

/-- The session invariant of a state known to be in `st`, which is not FAILED: for a given `st` each clause computes to the
one fact that holds there. -/
structure LiveInv (st : SeqState) (s : State) : Prop where
  inState : s.st = st
  notFailed : st ≠ .failed
  connUp : s.connUp = holdsConnection st
  err : s.err = .none
  sized : st.stable = false → 1 ≤ s.nchunk.toNat ∧ s.nchunk.toNat ≤ 255
  idx : idxFits st s.idx.toNat s.nchunk.toNat
  subOk : subOkFits st s.subOk
  timer : timerFits st s.timer.toNat s.settleDelay.toNat s.ackTimeout.toNat
  txCount : s.txCount.toNat = framesIssued st s.idx.toNat

variable {s u v : State} {st : SeqState}

theorem LiveInv.ofSession (h : SessionInv s) (hst : s.st = st) (hf : st ≠ .failed) : LiveInv st s := by
  subst hst
  exact
    { inState := rfl
      notFailed := hf
      connUp := h.connUp
      err := h.errOnlyFailed.mpr hf
      sized := fun k => h.sized (by simp [State.busy_eq, k])
      idx := (idxFits_iff ..).mpr
        ⟨h.idxBelow, h.idxLast, fun k => by simp [h.idxZero k], fun _ => h.idxBound⟩
      subOk := (subOkFits_iff ..).mpr ⟨h.subBoth, h.subPart, h.subNone⟩
      timer := (timerFits_iff ..).mpr ⟨h.settleTimer, h.waitTimer⟩
      txCount := h.txCount hf }

theorem LiveInv.idx_le (h : LiveInv st s) : s.idx.toNat ≤ 254 := by
  have hn := h.sized
  have hi := h.idx
  cases st <;> simp [idxFits, SeqState.stable] at hi hn <;> omega

theorem LiveInv.toSession (h : LiveInv st s) : SessionInv s := by
  have hle := h.idx_le
  have htx := framesIssued_le st s.idx.toNat
  rw [← h.txCount] at htx
  obtain rfl := h.inState
  obtain ⟨below, last, zero, -⟩ := (idxFits_iff ..).mp h.idx
  obtain ⟨both, part, hnone⟩ := (subOkFits_iff ..).mp h.subOk
  obtain ⟨settle, wait⟩ := (timerFits_iff ..).mp h.timer
  exact
    { connUp := h.connUp
      sized := fun k => h.sized (by simpa [State.busy_eq] using k)
      idxBelow := below
      idxLast := last
      idxZero := fun k => BitVec.eq_of_toNat_eq (zero k)
      idxBound := hle
      errOnlyFailed := iff_of_true h.err h.notFailed
      failIdx := fun k => absurd k h.notFailed
      subBoth := both
      subPart := part
      subNone := hnone
      settleTimer := settle
      waitTimer := wait
      txCount := fun _ => h.txCount
      txBound := by omega }

/-- The failure entry ends in a state of the invariant (R116): all its clauses but these five facts are empty in FAILED. -/
theorem raiseFail_sessionInv (s start : State) (code : FailCode) (hc : code ≠ .none) (hconn : s.connUp = start.connUp)
    (hidx : s.idx = start.idx) (hle : s.idx.toNat ≤ 254) (htx : s.txCount.toNat ≤ 259) :
    SessionInv (s.raiseFail start code) := by
  constructor <;>
    simp [State.busy_eq, SeqState.stable, hconn, holdsConnection, transferring, transferring.finalizing,
      beforeTransfer, subscribed, hc, ← hidx, hle, htx]

theorem LiveInv.raiseFail (h : LiveInv st s) {code : FailCode} (hc : code ≠ .none) :
    SessionInv (s.raiseFail s code) :=
  raiseFail_sessionInv s s code hc rfl rfl h.idx_le h.toSession.txBound

/-- TX_COUNT does not wrap (R37). -/
theorem LiveInv.txCount_succ (h : LiveInv st s) : (s.txCount + 1).toNat = framesIssued st s.idx.toNat + 1 := by
  have htx := h.toSession.txBound
  rw [← h.txCount, BitVec.toNat_add_of_lt (by simp; omega)]
  rfl

/-- A tick that does not reach the limit leaves TIMER below it, and does not wrap (R17). -/
theorem countTick_timer_lt (s : State) (limit : Half) (h : ¬limit.toNat ≤ s.timer.toNat + 1) :
    s.countTick.timer.toNat < max limit.toNat 1 := by
  simp; omega

/-- R106: XFER_SEND finds IDX in range. -/
theorem LiveInv.xferSend_inRange (h : LiveInv .xferSend s) : inRange s.idx s.nchunk = true :=
  (inRange_iff _ _).mpr ⟨(h.sized rfl).2, h.idx⟩

/-! ### The rules of the sequencer (R92 to R102) -/

theorem ruleConnecting_sessionInv (h : LiveInv .connecting s) (hv : ruleConnecting s = .next v) : SessionInv v := by
  rw [ruleConnecting_eq] at hv; cases hv; split
  · have hnone : s.subOk = 0b00#2 := h.subOk
    exact LiveInv.toSession (st := .subscribing)
      ⟨rfl, nofun, rfl, h.err, h.sized, h.idx, by simp [subOkFits, hnone], trivial, h.txCount⟩
  · exact h.raiseFail nofun
  · exact h.toSession

theorem ruleSubscribing_sessionInv (h : LiveInv .subscribing s) (hv : ruleSubscribing s = .next v) : SessionInv v := by
  rw [ruleSubscribing_eq] at hv; cases hv; split_ifs with hfail hboth
  · exact h.raiseFail nofun
  · exact LiveInv.toSession (st := .connected)
      ⟨rfl, nofun, h.connUp, h.err, h.sized, h.idx, hboth, trivial, h.txCount⟩
  · exact LiveInv.toSession (st := .subscribing) { h with subOk := hboth }

theorem ruleConnected_sessionInv (h : LiveInv .connected s) (hv : ruleConnected s = .next v) : SessionInv v := by
  rw [ruleConnected_eq] at hv; cases hv
  exact LiveInv.toSession (st := .resetWr1)
    ⟨rfl, nofun, h.connUp, h.err, h.sized, h.idx, h.subOk, trivial, h.txCount_succ⟩

theorem ruleResetWr1_sessionInv (h : LiveInv .resetWr1 s) (hv : ruleResetWr1 s = .next v) : SessionInv v := by
  rw [ruleResetWr1_eq] at hv; cases hv; split
  · exact LiveInv.toSession (st := .resetSettle)
      ⟨rfl, nofun, h.connUp, h.err, h.sized, h.idx, h.subOk, by simp [timerFits], h.txCount⟩
  · exact h.raiseFail nofun
  · exact h.toSession

theorem ruleResetSettle_sessionInv (h : LiveInv .resetSettle s) (hv : ruleResetSettle s = .next v) : SessionInv v := by
  rw [ruleResetSettle_eq] at hv; cases hv; split_ifs with htick hlimit
  · exact LiveInv.toSession (st := .resetWr2)
      ⟨rfl, nofun, h.connUp, h.err, h.sized, h.idx, h.subOk, trivial, h.txCount_succ⟩
  · exact LiveInv.toSession (st := .resetSettle) { h with timer := countTick_timer_lt s _ hlimit }
  · exact h.toSession

theorem ruleResetWr2_sessionInv (h : LiveInv .resetWr2 s) (hv : ruleResetWr2 s = .next v) : SessionInv v := by
  rw [ruleResetWr2_eq] at hv; cases hv; split
  · exact LiveInv.toSession (st := .xferSend)
      ⟨rfl, nofun, h.connUp, h.err, h.sized, (h.sized rfl).1, h.subOk, trivial, h.txCount⟩
  · exact h.raiseFail nofun
  · exact h.toSession

theorem ruleXferSend_sessionInv (h : LiveInv .xferSend s) (hv : ruleXferSend s = .next v) : SessionInv v := by
  rw [ruleXferSend_eq, if_pos h.xferSend_inRange] at hv; cases hv
  exact LiveInv.toSession (st := .xferWr)
    ⟨rfl, nofun, h.connUp, h.err, h.sized, h.idx, h.subOk, trivial, h.txCount_succ⟩

theorem ruleXferWr_sessionInv (h : LiveInv .xferWr s) (hv : ruleXferWr s = .next v) : SessionInv v := by
  rw [ruleXferWr_eq] at hv; cases hv; split
  · exact LiveInv.toSession (st := .xferWait)
      ⟨rfl, nofun, h.connUp, h.err, h.sized, h.idx, h.subOk, by simp [timerFits], h.txCount⟩
  · exact h.raiseFail nofun
  · exact h.toSession

theorem ruleXferWait_sessionInv (h : LiveInv .xferWait s) (hv : ruleXferWait s = .next v) : SessionInv v := by
  have hbelow : s.idx.toNat < s.nchunk.toNat := h.idx
  have htx : s.txCount.toNat = s.idx.toNat + 3 := h.txCount
  rw [ruleXferWait_eq] at hv; cases hv; split_ifs with hack hlast htick hlimit
  · exact LiveInv.toSession (st := .finWr1)
      ⟨rfl, nofun, h.connUp, h.err, h.sized, hlast, h.subOk, trivial, h.txCount_succ⟩
  · have hN := (h.sized rfl).2
    have hidx : (s.idx + 1).toNat = s.idx.toNat + 1 := BitVec.toNat_add_of_lt (by simp; omega)
    refine LiveInv.toSession (st := .xferSend)
      ⟨rfl, nofun, h.connUp, h.err, h.sized, ?_, h.subOk, trivial, ?_⟩
    · change (s.idx + 1).toNat < s.nchunk.toNat
      omega
    · change s.txCount.toNat = (s.idx + 1).toNat + 2
      omega
  · exact raiseFail_sessionInv s.countTick s _ nofun rfl rfl h.idx_le h.toSession.txBound
  · exact LiveInv.toSession (st := .xferWait) { h with timer := countTick_timer_lt s _ hlimit }
  · exact h.toSession

theorem ruleFinWr1_sessionInv (h : LiveInv .finWr1 s) (hv : ruleFinWr1 s = .next v) : SessionInv v := by
  rw [ruleFinWr1_eq] at hv; cases hv; split
  · exact LiveInv.toSession (st := .finWr2)
      ⟨rfl, nofun, h.connUp, h.err, h.sized, h.idx, h.subOk, trivial, h.txCount_succ⟩
  · exact h.raiseFail nofun
  · exact h.toSession

theorem ruleFinWr2_sessionInv (h : LiveInv .finWr2 s) (hv : ruleFinWr2 s = .next v) : SessionInv v := by
  rw [ruleFinWr2_eq] at hv; cases hv; split
  · exact LiveInv.toSession (st := .completed)
      ⟨rfl, nofun, rfl, h.err, nofun, h.idx_le, h.subOk, trivial, h.txCount⟩
  · exact h.raiseFail nofun
  · exact h.toSession

/-- Every rule of the sequencer keeps the session invariant; the stable states run none (R91). -/
theorem sequencerRule_sessionInv (h : SessionInv s) (hst : st.stable = false → s.st = st)
    (hv : sequencerRule st s = .next v) : SessionInv v := by
  cases st with
  | idle | completed | failed => cases hv; exact h
  | connecting => exact ruleConnecting_sessionInv (LiveInv.ofSession h (hst rfl) nofun) hv
  | subscribing => exact ruleSubscribing_sessionInv (LiveInv.ofSession h (hst rfl) nofun) hv
  | connected => exact ruleConnected_sessionInv (LiveInv.ofSession h (hst rfl) nofun) hv
  | resetWr1 => exact ruleResetWr1_sessionInv (LiveInv.ofSession h (hst rfl) nofun) hv
  | resetSettle => exact ruleResetSettle_sessionInv (LiveInv.ofSession h (hst rfl) nofun) hv
  | resetWr2 => exact ruleResetWr2_sessionInv (LiveInv.ofSession h (hst rfl) nofun) hv
  | xferSend => exact ruleXferSend_sessionInv (LiveInv.ofSession h (hst rfl) nofun) hv
  | xferWr => exact ruleXferWr_sessionInv (LiveInv.ofSession h (hst rfl) nofun) hv
  | xferWait => exact ruleXferWait_sessionInv (LiveInv.ofSession h (hst rfl) nofun) hv
  | finWr1 => exact ruleFinWr1_sessionInv (LiveInv.ofSession h (hst rfl) nofun) hv
  | finWr2 => exact ruleFinWr2_sessionInv (LiveInv.ofSession h (hst rfl) nofun) hv

/-! ### The host's part and the whole cycle -/

theorem beginSession_sessionInv (h : LiveInv .idle s) : SessionInv s.beginSession := by
  have hidx : s.idx = 0 := h.toSession.idxZero (by rw [h.inState]; rfl)
  obtain ⟨-, hu⟩ | ⟨-, -, hu⟩ | ⟨hpos, hmax, hu⟩ := s.beginSession_cases
  · rw [hu]; exact raiseFail_sessionInv _ s _ nofun rfl hidx.symm (by simp) (by simp)
  · rw [hu]; exact raiseFail_sessionInv _ s _ nofun rfl hidx.symm (by simp) (by simp)
  · have hN : 1 ≤ s.nchunk.toNat := by rw [State.nchunk_toNat]; omega
    rw [hu]
    exact LiveInv.toSession (st := .connecting)
      ⟨rfl, nofun, h.connUp, rfl, fun _ => ⟨hN, hmax⟩, rfl, rfl, trivial, rfl⟩

theorem clearSession_sessionInv (hconn : s.connUp = false) : SessionInv s.clearSession :=
  LiveInv.toSession (st := .idle) ⟨rfl, nofun, hconn, rfl, nofun, rfl, trivial, trivial, rfl⟩

/-- The connection is down in every stable state (R118). -/
theorem connUp_of_stable (h : SessionInv s) (hb : s.busy = false) : s.connUp = false := by
  rw [h.connUp]
  obtain hs | hs | hs := s.stable_cases hb <;> rw [hs] <;> rfl

theorem beginCycle_sessionInv (h : SessionInv s) : SessionInv s.beginCycle :=
  sessionInv_congr s _ h rfl rfl rfl rfl rfl rfl rfl rfl fun _ => ⟨rfl, rfl, rfl⟩

theorem endCycle_sessionInv (h : SessionInv s) : SessionInv s.endCycle :=
  sessionInv_congr s _ h rfl rfl rfl rfl rfl rfl rfl rfl fun _ => ⟨rfl, rfl, rfl⟩

theorem resetCycle_sessionInv (s : State) : SessionInv s.resetCycle :=
  LiveInv.toSession (st := .idle) ⟨rfl, nofun, rfl, rfl, nofun, rfl, trivial, trivial, rfl⟩

/-- What the host does in a cycle keeps the session invariant: its plain writes reach no field of the invariant but N and
the limits, which count only while busy. -/
theorem hostPart_sessionInv (h : SessionInv s) (hu : hostPart s = .next v) : SessionInv v := by
  cases hb : s.busy with
  | true =>
    obtain ⟨c, a, l, e, r, rfl⟩ := hostPart_busy s v hb hu
    exact sessionInv_congr s _ h rfl rfl rfl rfl rfl rfl rfl rfl fun _ => ⟨rfl, rfl, rfl⟩
  | false =>
    have notBusy : s.busy = true → False := by simp [hb]
    obtain ⟨c, len, ta, sd, a, l, e, m, r, rfl, -⟩ | ⟨arg, -, rfl⟩ | ⟨q, rfl⟩ | ⟨hs, -, rfl⟩ | ⟨-, rfl⟩ :=
      hostPart_stable s v hb hu
    · exact sessionInv_congr s _ h rfl rfl rfl rfl rfl rfl rfl rfl fun k => (notBusy k).elim
    · exact sessionInv_congr s _ h rfl rfl rfl rfl rfl rfl rfl rfl fun k => (notBusy k).elim
    · exact sessionInv_congr s _ h rfl rfl rfl rfl rfl rfl rfl rfl fun k => (notBusy k).elim
    · exact beginSession_sessionInv (LiveInv.ofSession (beginCycle_sessionInv h) hs nofun)
    · exact clearSession_sessionInv (connUp_of_stable (beginCycle_sessionInv h) hb)

theorem hostPart_st_of_busy (hb : s.busy = true) (hu : hostPart s = .next u) : u.st = s.st := by
  obtain ⟨c, a, l, e, r, rfl⟩ := hostPart_busy s u hb hu
  rfl

/-- Settles O56: the host's part, the rule of the STATE the cycle started in, and the end of the cycle each keep it. -/
theorem stepKeepsSessionInvariant : Obligations.StepKeepsSessionInvariant := by
  unfold Obligations.StepKeepsSessionInvariant
  intro s t h hstep
  obtain ⟨-, rfl⟩ | ⟨-, u, v, hu, hv, rfl⟩ := step_cases s t hstep
  · exact resetCycle_sessionInv s
  · have hst : s.st.stable = false → u.st = s.st := fun k => hostPart_st_of_busy (by simp [State.busy_eq, k]) hu
    exact endCycle_sessionInv (sequencerRule_sessionInv (hostPart_sessionInv h hu) hst hv)

end Sys2Proof.Machine
end

section
/-! The path of a session (42_flow_control.md R107): where STATE goes in a cycle without reset. -/

namespace Sys2Proof.Machine

open Sys2Proof.Safety

variable {s u v : State} {st : SeqState}

/-- The rule of a state moves STATE along the path of R107, or to FAILED where it can raise a failure. -/
theorem sequencerRule_mayFollow (h : SessionInv s) (hst : s.st = st) (hv : sequencerRule st s = .next v) :
    mayFollow st v.st = true := by
  cases st with
  | idle | completed | failed => cases hv; rw [hst]; rfl
  | connecting => rw [sequencerRule, ruleConnecting_eq] at hv; cases hv; split <;> simp [mayFollow, hst]
  | subscribing => rw [sequencerRule, ruleSubscribing_eq] at hv; cases hv; split_ifs <;> simp [mayFollow, hst]
  | connected => cases hv; rfl
  | resetWr1 => rw [sequencerRule, ruleResetWr1_eq] at hv; cases hv; split <;> simp [mayFollow, hst]
  | resetSettle => rw [sequencerRule, ruleResetSettle_eq] at hv; cases hv; split_ifs <;> simp [mayFollow, hst]
  | resetWr2 => rw [sequencerRule, ruleResetWr2_eq] at hv; cases hv; split <;> simp [mayFollow, hst]
  | xferSend =>
    rw [sequencerRule, ruleXferSend_eq, if_pos (LiveInv.ofSession h hst nofun).xferSend_inRange] at hv
    cases hv; rfl
  | xferWr => rw [sequencerRule, ruleXferWr_eq] at hv; cases hv; split <;> simp [mayFollow, hst]
  | xferWait => rw [sequencerRule, ruleXferWait_eq] at hv; cases hv; split_ifs <;> simp [mayFollow, hst]
  | finWr1 => rw [sequencerRule, ruleFinWr1_eq] at hv; cases hv; split <;> simp [mayFollow, hst]
  | finWr2 => rw [sequencerRule, ruleFinWr2_eq] at hv; cases hv; split <;> simp [mayFollow, hst]

theorem mayFollow_of_stable (st : SeqState) (h : st.stable = true) :
    mayFollow st st = true ∧ mayFollow st .idle = true := by
  cases st <;> simp [SeqState.stable] at h <;> decide

theorem beginSession_mayFollow (s : State) : mayFollow .idle s.beginSession.st = true := by
  obtain ⟨-, h⟩ | ⟨-, -, h⟩ | ⟨-, -, h⟩ := s.beginSession_cases <;> rw [h] <;> rfl

/-- From a stable state the host's part stays, starts a session from IDLE, or returns to IDLE (R91, R121). -/
theorem hostPart_mayFollow (hb : s.busy = false) (hu : hostPart s = .next u) : mayFollow s.st u.st = true := by
  obtain ⟨stays, returns⟩ := mayFollow_of_stable s.st (by simpa [State.busy_eq] using hb)
  obtain ⟨c, len, ta, sd, a, l, e, m, r, rfl, -⟩ | ⟨arg, -, rfl⟩ | ⟨q, rfl⟩ | ⟨hs, -, rfl⟩ | ⟨-, rfl⟩ :=
    hostPart_stable s u hb hu
  · exact stays
  · exact stays
  · exact stays
  · rw [hs]; exact beginSession_mayFollow _
  · exact returns

/-- Settles O48: a busy cycle moves STATE by its rule, a stable one by the host's part. -/
theorem stateFollowsTheSessionPath : Obligations.StateFollowsTheSessionPath := by
  unfold Obligations.StateFollowsTheSessionPath
  intro s t h hr hstep
  cases hb : s.busy with
  | true =>
    obtain ⟨hrst, -⟩ | ⟨-, u, v, hu, hv, rfl⟩ := step_cases s t hstep
    · simp [hr] at hrst
    · rw [State.endCycle_st]
      exact sequencerRule_mayFollow (hostPart_sessionInv h hu) (hostPart_st_of_busy hb hu) hv
  | false =>
    obtain ⟨u, hu, rfl⟩ := step_stable s t hb hr hstep
    rw [State.endCycle_st]
    exact hostPart_mayFollow hb hu

end Sys2Proof.Machine
end

section
/-! The memories (20_memory.md R40, R51, R54): PB and FB keep their canonical form, the payload and the limits stand still
while busy, and one write at a time is outstanding. The rules of the sequencer write neither PB nor a register of the
payload, which serves the first two. -/

namespace Sys2Proof.Machine

open Sys2Proof.Safety

variable {s t u v : State} {st : SeqState}

/-! ### What the host may write while busy -/

/-- Settles O37: the host's writes of a busy cycle are those of `State.hostWrites`. -/
theorem busyHostWritesOnlyUnlockedFields : Obligations.BusyHostWritesOnlyUnlockedFields := by
  unfold Obligations.BusyHostWritesOnlyUnlockedFields
  intro s u hb hu
  obtain ⟨c, a, l, e, r, rfl⟩ := hostPart_busy s u hb hu
  rfl

/-! ### The payload and the limits -/

/-- `t` has the payload and the limits of `s`: PB, PAYLOAD_LEN, ACK_TIMEOUT, SETTLE_DELAY, and the unwritten bytes of PB
(R51, R132). -/
structure PayloadKept (s t : State) : Prop where
  pb : t.pb = s.pb
  epoch : t.epoch = s.epoch
  payloadLen : t.payloadLen = s.payloadLen
  ackTimeout : t.ackTimeout = s.ackTimeout
  settleDelay : t.settleDelay = s.settleDelay

theorem PayloadKept.nchunk (h : PayloadKept s t) : t.nchunk = s.nchunk := by
  simp only [State.nchunk, h.payloadLen]

theorem PayloadKept.chunk (h : PayloadKept s t) (i : Nat) : t.chunk i = s.chunk i := by
  simp only [State.chunk, State.chunkByte, State.readPB, h.pb, h.epoch, h.payloadLen]

theorem sequencerRule_payloadKept (hv : sequencerRule st s = .next v) : PayloadKept s v := by
  cases st with
  | idle | connected | completed | failed => cases hv; constructor <;> rfl
  | connecting => rw [sequencerRule, ruleConnecting_eq] at hv; cases hv; split <;> constructor <;> simp
  | subscribing => rw [sequencerRule, ruleSubscribing_eq] at hv; cases hv; split_ifs <;> constructor <;> simp
  | resetWr1 => rw [sequencerRule, ruleResetWr1_eq] at hv; cases hv; split <;> constructor <;> simp
  | resetSettle => rw [sequencerRule, ruleResetSettle_eq] at hv; cases hv; split_ifs <;> constructor <;> simp
  | resetWr2 => rw [sequencerRule, ruleResetWr2_eq] at hv; cases hv; split <;> constructor <;> simp
  | xferSend => rw [sequencerRule, ruleXferSend_eq] at hv; cases hv; split <;> constructor <;> simp
  | xferWr => rw [sequencerRule, ruleXferWr_eq] at hv; cases hv; split <;> constructor <;> simp
  | xferWait => rw [sequencerRule, ruleXferWait_eq] at hv; cases hv; split_ifs <;> constructor <;> simp
  | finWr1 => rw [sequencerRule, ruleFinWr1_eq] at hv; cases hv; split <;> constructor <;> simp
  | finWr2 => rw [sequencerRule, ruleFinWr2_eq] at hv; cases hv; split <;> constructor <;> simp

/-- Settles O38: while busy, neither the host's writes nor the rule of the STATE reach the payload or the limits. -/
theorem payloadAndLimitsConstantWhileBusy : Obligations.PayloadAndLimitsConstantWhileBusy := by
  unfold Obligations.PayloadAndLimitsConstantWhileBusy
  intro s t hb hr hstep
  obtain ⟨c, a, l, e, r, v, hv, rfl⟩ := step_busy s t hb hr hstep
  obtain ⟨hpb, hepoch, hlen, hack, hsettle⟩ := sequencerRule_payloadKept hv
  have kept : PayloadKept s v.endCycle := ⟨hpb, hepoch, hlen, hack, hsettle⟩
  exact ⟨kept.pb, kept.payloadLen, kept.ackTimeout, kept.settleDelay, kept.nchunk, kept.chunk⟩

/-! ### The canonical form of PB and FB -/

/-- A data frame fills FB exactly, so storing one keeps FB canonical. -/
theorem FrameKeptOrStored.fb_wf (h : FrameKeptOrStored s t) (hs : Memory.wf Config.frameBytes s.fb = true) :
    Memory.wf Config.frameBytes t.fb = true := by
  obtain ⟨-, hfb⟩ | ⟨-, p, i, n, c, hfb⟩ := h
  · rw [hfb]; exact hs
  · rw [hfb]; exact Memory.wf_ofBytes _ _ (dataFrame_length p i n c).le

@[simp] theorem State.beginSession_pb (s : State) : s.beginSession.pb = s.pb := by
  obtain ⟨-, h⟩ | ⟨-, -, h⟩ | ⟨-, -, h⟩ := s.beginSession_cases <;> simp [h]

/-- Of all the host can do, only WRB in a stable state writes PB, inside its address space (R112). -/
theorem hostPart_pb_wf (hu : hostPart s = .next u) (hs : Memory.wf Config.payloadMax s.pb = true) :
    Memory.wf Config.payloadMax u.pb = true := by
  cases hb : s.busy with
  | true =>
    obtain ⟨c, a, l, e, r, rfl⟩ := hostPart_busy s u hb hu
    exact hs
  | false =>
    obtain ⟨c, len, ta, sd, a, l, e, m, r, rfl, hm⟩ | ⟨arg, -, rfl⟩ | ⟨q, rfl⟩ | ⟨-, -, rfl⟩ | ⟨-, rfl⟩ :=
      hostPart_stable s u hb hu
    · exact hm hs
    · exact hs
    · exact hs
    · rw [State.beginSession_pb]; exact hs
    · exact hs

/-- Settles O55: the host's part keeps PB canonical and no rule writes it; FB is only ever filled by a whole frame. -/
theorem stepKeepsMemoryCanonical : Obligations.StepKeepsMemoryCanonical := by
  unfold Obligations.StepKeepsMemoryCanonical
  intro s t ⟨hpb, hfb⟩ hstep
  obtain ⟨-, rfl⟩ | ⟨-, u, v, hu, hv, rfl⟩ := step_cases s t hstep
  · exact ⟨Memory.wf_nil _, Memory.wf_nil _⟩
  · constructor
    · rw [State.endCycle_pb, (sequencerRule_payloadKept hv).pb]
      exact hostPart_pb_wf hu hpb
    · rw [State.endCycle_fb]
      exact (sequencerRule_frame hv).fb_wf ((hostPart_frame hu).fb_wf hfb)

/-! ### The outstanding write -/

theorem issuesFrame_of_stable (hb : s.busy = false) : issuesFrame s = false := by
  obtain hs | hs | hs := s.stable_cases hb <;> simp [issuesFrame, hs]

theorem beginSession_txReq (s : State) : s.beginSession.out.txReq = s.out.txReq := by
  obtain ⟨-, h⟩ | ⟨-, -, h⟩ | ⟨-, -, h⟩ := s.beginSession_cases <;> simp [h]

/-- In a stable state the host's part emits no `tx_req`. -/
theorem hostPart_txReq_of_stable (hb : s.busy = false) (hu : hostPart s = .next u) : u.out.txReq = none := by
  obtain ⟨c, len, ta, sd, a, l, e, m, r, rfl, -⟩ | ⟨arg, -, rfl⟩ | ⟨q, rfl⟩ | ⟨-, -, rfl⟩ | ⟨-, rfl⟩ :=
    hostPart_stable s u hb hu
  · rfl
  · rfl
  · rfl
  · exact beginSession_txReq _
  · rfl

/-- The rule of a state emits a `tx_req` exactly where `issuesFrame` says (R94 to R101). -/
theorem sequencerRule_txReq_isSome (hst : s.st = st) (hnone : s.out.txReq = none) (hv : sequencerRule st s = .next v) :
    v.out.txReq.isSome = issuesFrame s := by
  cases st with
  | idle | completed | failed => cases hv; simp [issuesFrame, hst, hnone]
  | connected => cases hv; simp [issuesFrame, hst]
  | connecting => rw [sequencerRule, ruleConnecting_eq] at hv; cases hv; split <;> simp [issuesFrame, hst, hnone]
  | subscribing => rw [sequencerRule, ruleSubscribing_eq] at hv; cases hv; split_ifs <;> simp [issuesFrame, hst, hnone]
  | resetWr1 => rw [sequencerRule, ruleResetWr1_eq] at hv; cases hv; split <;> simp [issuesFrame, hst, hnone]
  | resetSettle => rw [sequencerRule, ruleResetSettle_eq] at hv; cases hv; split_ifs <;> simp [issuesFrame, *]
  | resetWr2 => rw [sequencerRule, ruleResetWr2_eq] at hv; cases hv; split <;> simp [issuesFrame, hst, hnone]
  | xferSend => rw [sequencerRule, ruleXferSend_eq] at hv; cases hv; split <;> simp [issuesFrame, *]
  | xferWr => rw [sequencerRule, ruleXferWr_eq] at hv; cases hv; split <;> simp [issuesFrame, hst, hnone]
  | xferWait =>
    have hissue : issuesFrame s = ((s.ackLatch || s.input.ackIn) && decide (s.idx.toNat + 1 = s.nchunk.toNat)) := by
      simp only [issuesFrame, hst]
    rw [sequencerRule, ruleXferWait_eq] at hv; cases hv; rw [hissue]; split_ifs <;> simp [*]
  | finWr1 => rw [sequencerRule, ruleFinWr1_eq] at hv; cases hv; split <;> simp [issuesFrame, *]
  | finWr2 => rw [sequencerRule, ruleFinWr2_eq] at hv; cases hv; split <;> simp [issuesFrame, hst, hnone]

/-- A rule that issues a frame leaves its write outstanding, and none was, or its answer has just come: only FIN_WR1
issues while it waits, on `tx_done = OK` (R101). -/
theorem sequencerRule_outstandingTx (hst : s.st = st) (hi : issuesFrame s = true) (hv : sequencerRule st s = .next v) :
    outstandingTx v.st = true ∧ (outstandingTx st = false ∨ s.input.txDone = .ok) := by
  cases st with
  | idle | connecting | subscribing | resetWr1 | resetWr2 | xferWr | finWr2 | completed | failed =>
    simp [issuesFrame, hst] at hi
  | connected => cases hv; exact ⟨rfl, .inl rfl⟩
  | resetSettle =>
    obtain ⟨htick, hlimit⟩ : s.input.tick = true ∧ s.settleDelay.toNat ≤ s.timer.toNat + 1 := by
      simpa [issuesFrame, hst] using hi
    rw [sequencerRule, ruleResetSettle_eq, if_pos htick, if_pos hlimit] at hv
    cases hv; exact ⟨rfl, .inl rfl⟩
  | xferSend =>
    have hin : inRange s.idx s.nchunk = true := by simpa [issuesFrame, hst] using hi
    rw [sequencerRule, ruleXferSend_eq, if_pos hin] at hv
    cases hv; exact ⟨rfl, .inl rfl⟩
  | xferWait =>
    obtain ⟨hack, hlast⟩ : (s.ackLatch || s.input.ackIn) = true ∧ s.idx.toNat + 1 = s.nchunk.toNat := by
      simpa [issuesFrame, hst] using hi
    rw [sequencerRule, ruleXferWait_eq, if_pos hack, if_pos hlast] at hv
    cases hv; exact ⟨rfl, .inl rfl⟩
  | finWr1 =>
    have hok : s.input.txDone = .ok := by simpa [issuesFrame, hst] using hi
    rw [sequencerRule, ruleFinWr1_eq, hok] at hv
    cases hv; exact ⟨rfl, .inr hok⟩

/-- Settles O51: the host emits no `tx_req` and no stable state runs a rule; in a busy one the rule of the STATE decides,
which sees the fields `issuesFrame` reads as they were before the host's writes. -/
theorem atMostOneFrameOutstanding : Obligations.AtMostOneFrameOutstanding := by
  unfold Obligations.AtMostOneFrameOutstanding
  intro s t hr hstep
  cases hb : s.busy with
  | true =>
    obtain ⟨c, a, l, e, r, v, hv, rfl⟩ := step_busy s t hb hr hstep
    have sameIssue : issuesFrame (s.beginCycle.hostWrites c a l e r) = issuesFrame s := rfl
    have emitted : v.out.txReq.isSome = issuesFrame s := (sequencerRule_txReq_isSome rfl rfl hv).trans sameIssue
    rw [State.endCycle_out, State.endCycle_st, emitted]
    exact ⟨.rfl, fun hi => sequencerRule_outstandingTx (s := s.beginCycle.hostWrites c a l e r) rfl hi hv⟩
  | false =>
    obtain ⟨u, hu, rfl⟩ := step_stable s t hb hr hstep
    simp [hostPart_txReq_of_stable hb hu, issuesFrame_of_stable hb]

end Sys2Proof.Machine
end

section
/-! The command words (30_encoding.md R56 to R60): the opcode map and `Command.word` are inverse to each other, and what
a write to CMD does. -/

namespace Sys2Proof.Machine

/-! ### A word and its fields -/

/-- R57: OPC, ARG and RSVD are the whole of a word. -/
theorem word_eq_iff_fields (v w : Word) :
    v = w ↔ v.extractLsb' 0 8 = w.extractLsb' 0 8 ∧ commandArg v = commandArg w ∧
      v.extractLsb' 16 16 = w.extractLsb' 16 16 := by
  constructor
  · rintro rfl
    exact ⟨rfl, rfl, rfl⟩
  · rintro ⟨hopc, harg, hrsvd⟩
    have opcNat := congrArg BitVec.toNat hopc
    have argNat := congrArg BitVec.toNat harg
    have rsvdNat := congrArg BitVec.toNat hrsvd
    simp only [commandArg, BitVec.extractLsb'_toNat, Nat.shiftRight_eq_div_pow] at opcNat argNat rsvdNat
    exact BitVec.eq_of_toNat_eq (by omega)

/-- R58: the mask of ENCODE's row keeps OPC and RSVD and clears ARG. -/
theorem selects_encode_row_iff (w : Word) :
    w &&& 0xFFFF00FF#32 = 0x00000003#32 ↔ w.extractLsb' 0 8 = 3#8 ∧ w.extractLsb' 16 16 = 0#16 := by
  have opcMask : (0xFFFF00FF#32).extractLsb' 0 8 = BitVec.allOnes 8 := by decide
  have argMask : (0xFFFF00FF#32).extractLsb' 8 8 = 0#8 := by decide
  have rsvdMask : (0xFFFF00FF#32).extractLsb' 16 16 = BitVec.allOnes 16 := by decide
  rw [word_eq_iff_fields, commandArg, commandArg]
  simp only [BitVec.extractLsb'_and, opcMask, argMask, rsvdMask, BitVec.and_allOnes, BitVec.and_zero]
  simp

/-! ### The opcode map and its words -/

@[simp] theorem encode_word_opc (arg : Byte) : (Command.encode arg).word.extractLsb' 0 8 = 3#8 := by
  rw [Command.word, ← fieldAt, BitVec.extractLsb'_or, extractLsb'_fieldAt_apart 8 0 8 arg (by decide) (by decide)]
  decide

@[simp] theorem encode_word_arg (arg : Byte) : commandArg (Command.encode arg).word = arg := by
  rw [Command.word, ← fieldAt, commandArg, BitVec.extractLsb'_or, extractLsb'_fieldAt_same 8 arg (by decide)]
  simp

@[simp] theorem encode_word_rsvd (arg : Byte) : (Command.encode arg).word.extractLsb' 16 16 = 0#16 := by
  rw [Command.word, ← fieldAt, BitVec.extractLsb'_or, extractLsb'_fieldAt_apart 8 16 16 arg (by decide) (by decide)]
  decide

/-- R58: the row of ENCODE selects the words of ENCODE, one for each index. -/
theorem eq_encode_word_iff (w : Word) (arg : Byte) :
    w = (Command.encode arg).word ↔ w &&& 0xFFFF00FF#32 = 0x00000003#32 ∧ commandArg w = arg := by
  rw [word_eq_iff_fields, selects_encode_row_iff, encode_word_opc, encode_word_arg, encode_word_rsvd]
  tauto

/-- R58: each command has exactly one word, and the opcode map reads it back. -/
theorem decodeCommand_eq_some_iff (w : Word) (c : Command) : decodeCommand w = some c ↔ w = c.word := by
  constructor
  · intro h
    rw [decodeCommand_eq] at h
    split_ifs at h with h0 h1 h2 h3 h4
    · cases h; exact h0
    · cases h; exact h1
    · cases h; exact h2
    · cases h; exact (eq_encode_word_iff w _).mpr ⟨h3, rfl⟩
    · cases h; exact h4
  · rintro rfl
    cases c with
    | nop | start | clear | cksum => decide
    | encode arg =>
      have hrow := ((eq_encode_word_iff _ arg).mp rfl).1
      have notRow (v : Word) (hv : v.extractLsb' 0 8 ≠ 3#8) : (Command.encode arg).word ≠ v := by
        rintro rfl
        exact hv (encode_word_opc arg)
      rw [decodeCommand_eq, if_neg (notRow _ (by decide)), if_neg (notRow _ (by decide)), if_neg (notRow _ (by decide)),
        if_pos hrow, encode_word_arg]

@[simp] theorem decodeCommand_word (c : Command) : decodeCommand c.word = some c :=
  (decodeCommand_eq_some_iff _ c).mpr rfl

/-- Settles O3: a row of full mask selects its pattern alone, the row of ENCODE the words of ENCODE. -/
theorem commandWordsAreTheRowsOfTheMap : Obligations.CommandWordsAreTheRowsOfTheMap := by
  unfold Obligations.CommandWordsAreTheRowsOfTheMap
  intro w arg
  have fullMask : w &&& 0xFFFFFFFF#32 = w := BitVec.and_allOnes
  rw [fullMask]
  exact ⟨decodeCommand_eq_some_iff w .nop, decodeCommand_eq_some_iff w .start, decodeCommand_eq_some_iff w .clear,
    (decodeCommand_eq_some_iff w (.encode arg)).trans (eq_encode_word_iff w arg), decodeCommand_eq_some_iff w .cksum⟩

/-- Settles O4 by reading the sample words through the opcode map. -/
theorem sampleCodesDecode : Obligations.SampleCodesDecode := by
  unfold Obligations.SampleCodesDecode
  decide

/-! ### A write to CMD -/

theorem exec_wr_cmd (w : Word) (s : State) : exec (.wr 0x00#8 w) s = writeCmd w s := rfl

theorem exec_toInstr (c : Command) (s : State) : exec c.toInstr s = runCommand c s :=
  exec_command c.toInstr c s (commandOf_toInstr c)

/-- R59: what the fields of a command's word never hold. -/
theorem command_word_legal (c : Command) :
    (c.word.extractLsb' 0 8).toNat < 5 ∧ c.word.extractLsb' 16 16 = 0#16 ∧
      (c.word.extractLsb' 0 8 = 3#8 ∨ c.word.extractLsb' 8 8 = 0#8) := by
  cases c with
  | nop | start | clear | cksum => decide
  | encode arg => simp

/-- Settles O5: a command's word has none of the three forms, and a write of any other word ends at the opcode map. -/
theorem illegalCommandWordOnlySetsBadOpcode : Obligations.IllegalCommandWordOnlySetsBadOpcode := by
  unfold Obligations.IllegalCommandWordOnlySetsBadOpcode
  intro s w hillegal
  have noRow : decodeCommand w = none := by
    rw [Option.eq_none_iff_forall_ne_some]
    intro c hc
    rw [decodeCommand_eq_some_iff] at hc
    subst hc
    obtain ⟨hopc, hrsvd, harg⟩ := command_word_legal c
    obtain h | h | ⟨h3, h0⟩ := hillegal
    · omega
    · exact h hrsvd
    · exact harg.elim h3 h0
  exact ⟨noRow, by rw [decodeWord, noRow], by rw [exec_wr_cmd, writeCmd, noRow]; rfl⟩

/-- Settles O6: the opcode map is asked first; then a busy sequencer refuses every command alike. -/
theorem commandWriteIsDecodedInOrder : Obligations.CommandWriteIsDecodedInOrder := by
  unfold Obligations.CommandWriteIsDecodedInOrder
  intro s w
  rw [exec_wr_cmd, writeCmd]
  cases decodeCommand w with
  | none => rfl
  | some c =>
    cases hb : s.busy with
    | true => exact runCommand_busy s hb c
    | false => exact (exec_toInstr c s).symm

end Sys2Proof.Machine
end

section
/-! The wire frames (30_encoding.md R61 to R71): a data frame is its fields at their offsets, so the decoder that tests
them field by field accepts the data frames and nothing else. -/

namespace Sys2Proof

/-! ### Slices of a byte string -/

section Slices

variable (bytes : List Byte)

theorem sliceBytes_length (o n : Nat) (h : o + n ≤ bytes.length) : (sliceBytes bytes o n).length = n := by
  rw [sliceBytes, List.length_take, List.length_drop]
  omega

/-- A slice is two adjacent ones. -/
theorem sliceBytes_add (o m n : Nat) :
    sliceBytes bytes o (m + n) = sliceBytes bytes o m ++ sliceBytes bytes (o + m) n := by
  simp [sliceBytes, List.take_add, List.drop_drop]

theorem getElem?_sliceBytes (o n k : Nat) (h : k < n) : (sliceBytes bytes o n)[k]? = bytes[o + k]? := by
  simp [sliceBytes, List.getElem?_take_of_lt h]

theorem getElem?_of_slice {o n k : Nat} {seg : List Byte} (h : sliceBytes bytes o n = seg) (hk : k < n) :
    bytes[o + k]? = seg[k]? := by
  rw [← h, getElem?_sliceBytes bytes o n k hk]

theorem getD_of_slice {o n : Nat} {b : Byte} {rest : List Byte} (h : sliceBytes bytes o n = b :: rest) (hn : 0 < n) :
    bytes.getD o 0 = b := by
  simpa using congrArg (·.getD 0) (getElem?_of_slice bytes h hn)

theorem sliceBytes_one (o : Nat) (h : o < bytes.length) : sliceBytes bytes o 1 = [bytes.getD o 0] := by
  simp [sliceBytes, List.take_one_drop_eq_of_lt_length h, h]

/-- R69: the chunk is offsets 46..241. -/
theorem chunkOfFrame_toList (h : bytes.length = 244) : (chunkOfFrame bytes).toList = sliceBytes bytes 46 196 := by
  refine List.ext_getElem (by simp [sliceBytes_length, h]) fun k hk _ => ?_
  have hk : k < 196 := by simpa using hk
  simp [chunkOfFrame, sliceBytes, show 46 + k < bytes.length by omega]

end Slices

/-! ### The fields of a data frame -/

/-- R61: a byte string holds the fields of the header and the chunk at their offsets. -/
structure BodyFields (p : Params) (i : Byte) (n : BitVec 9) (chunk : Vector Byte 196) (bytes : List Byte) : Prop where
  start : sliceBytes bytes 0 4 = p.frameStart.toList
  len : sliceBytes bytes 4 1 = [p.lenField]
  index : sliceBytes bytes 5 3 = indexField p i
  hdrA : sliceBytes bytes 8 28 = p.hdrA.toList
  count : sliceBytes bytes 36 1 = [n.setWidth 8]
  indexAgain : sliceBytes bytes 37 3 = indexField p i
  hdrB : sliceBytes bytes 40 4 = p.hdrB.toList
  hdrC : sliceBytes bytes 44 2 = p.hdrC.toList
  chunk : sliceBytes bytes 46 196 = chunk.toList

section Fields

variable (p : Params) (i : Byte) (n : BitVec 9) (chunk : Vector Byte 196) (bytes : List Byte)

/-- R61: the fields fill offsets 0..241. -/
theorem sliceBytes_body :
    sliceBytes bytes 0 242 =
      sliceBytes bytes 0 4 ++ (sliceBytes bytes 4 1 ++ (sliceBytes bytes 5 3 ++ (sliceBytes bytes 8 28 ++
        (sliceBytes bytes 36 1 ++ (sliceBytes bytes 37 3 ++ (sliceBytes bytes 40 4 ++ (sliceBytes bytes 44 2 ++
          sliceBytes bytes 46 196))))))) := by
  simp only [← sliceBytes_add bytes, Nat.reduceAdd]

theorem bodyFields_iff (h : bytes.length = 244) :
    BodyFields p i n chunk bytes ↔ sliceBytes bytes 0 242 = frameBody p i n chunk := by
  rw [sliceBytes_body, frameBody, headerBytes]
  simp (disch := rw [sliceBytes_length bytes _ _ (by omega)]; simp) only
    [List.append_assoc, List.append_eq_append_iff_of_size_eq_left]
  constructor
  · rintro ⟨hstart, hlen, hindex, hhdrA, hcount, hagain, hhdrB, hhdrC, hchunk⟩
    exact ⟨hstart, hlen, hindex, hhdrA, hcount, hagain, hhdrB, hhdrC, hchunk⟩
  · rintro ⟨hstart, hlen, hindex, hhdrA, hcount, hagain, hhdrB, hhdrC, hchunk⟩
    exact ⟨hstart, hlen, hindex, hhdrA, hcount, hagain, hhdrB, hhdrC, hchunk⟩

/-- R61, R70: a data frame is its fields, with the trailer of the bytes before it. -/
theorem eq_dataFrame_iff (h : bytes.length = 244) :
    bytes = dataFrame p i n chunk ↔
      BodyFields p i n chunk bytes ∧
        sliceBytes bytes 242 2 = [(frameChecksum p i n chunk).ck, (frameChecksum p i n chunk).tb] := by
  have bodyThenTrailer : bytes = sliceBytes bytes 0 242 ++ sliceBytes bytes 242 2 := by
    rw [← sliceBytes_add bytes 0 242 2, sliceBytes, List.drop_zero, List.take_of_length_le (by omega)]
  have bodyLength : (sliceBytes bytes 0 242).length = (frameBody p i n chunk).length := by
    rw [frameBody_length, sliceBytes_length bytes 0 242 (by omega)]
  rw [bodyFields_iff p i n chunk bytes h, dataFrame, ← List.append_eq_append_iff_of_size_eq_left bodyLength,
    ← bodyThenTrailer]

theorem dataFrame_fields : BodyFields p i n chunk (dataFrame p i n chunk) :=
  ((eq_dataFrame_iff p i n chunk _ (dataFrame_length ..)).mp rfl).1

theorem dataFrame_trailer :
    sliceBytes (dataFrame p i n chunk) 242 2 = [(frameChecksum p i n chunk).ck, (frameChecksum p i n chunk).tb] :=
  ((eq_dataFrame_iff p i n chunk _ (dataFrame_length ..)).mp rfl).2

end Fields

/-! ### The trailer (R70) -/

theorem reduceBytes_ck (X : List Byte) : (reduceBytes X).ck = checksumMod256 X := by
  apply BitVec.eq_of_toNat_eq
  simp [reduceBytes, checksumMod256, accumulate_toNat]

theorem reduceBytes_tb (X : List Byte) : (reduceBytes X).tb = trailingByte (X ++ [(reduceBytes X).ck]) := by
  apply BitVec.eq_of_toNat_eq
  rw [reduceBytes_ck]
  simp only [reduceBytes, trailingByte, checksumMod256, byteSum_append, byteSum_cons, byteSum_nil, accumulate_toNat,
    BitVec.extractLsb'_toNat, BitVec.toNat_add, BitVec.toNat_setWidth, BitVec.toNat_ofNat, Nat.shiftRight_eq_div_pow]
  omega

/-- Settles O7: each offset lies in one of the fields; the trailer is the reduction of the 242 bytes before it. -/
theorem dataFrameLayout : Obligations.DataFrameLayout := by
  unfold Obligations.DataFrameLayout
  intro p i n chunk F
  obtain ⟨hstart, hlen, hindex, hhdrA, hcount, hagain, hhdrB, hhdrC, hchunk⟩ := dataFrame_fields p i n chunk
  have htrailer := dataFrame_trailer p i n chunk
  refine ⟨dataFrame_length p i n chunk, fun k => ?_, getElem?_of_slice F hlen (k := 0) (by decide),
    getElem?_of_slice F hindex (k := 0) (by decide), getElem?_of_slice F hindex (k := 1) (by decide),
    getElem?_of_slice F hindex (k := 2) (by decide), fun k => ?_, ?_, getElem?_of_slice F hagain (k := 0) (by decide),
    getElem?_of_slice F hagain (k := 1) (by decide), getElem?_of_slice F hagain (k := 2) (by decide),
    fun k => ?_, fun k => ?_, fun k => ?_, ?_, ?_⟩
  · simpa using getElem?_of_slice F hstart k.isLt
  · simpa using getElem?_of_slice F hhdrA k.isLt
  · simpa using getElem?_of_slice F hcount (k := 0) (by decide)
  · simpa using getElem?_of_slice F hhdrB k.isLt
  · rw [getElem?_of_slice F hhdrC k.isLt]
    simp
  · simpa using getElem?_of_slice F hchunk k.isLt
  · rw [dataFrame_take_body, ← reduceBytes_ck]
    exact getElem?_of_slice F htrailer (k := 0) (by decide)
  · rw [dataFrame_take_checked, frameChecksum, ← reduceBytes_tb]
    exact getElem?_of_slice F htrailer (k := 1) (by decide)

/-! ### Reading a data frame -/

section Reading

variable (p : Params) (i : Byte) (n : BitVec 9) (chunk : Vector Byte 196) (bytes : List Byte)

/-- R61 to R70: a data frame with `i < N ≤ 255` passes every test of the decoder. -/
theorem decodeData_dataFrame (hwf : (Instr.data i n chunk).wellFormed = true) :
    decodeData p (dataFrame p i n chunk) = .ok (.data i n chunk) := by
  obtain ⟨hn, hi⟩ : n.toNat ≤ 255 ∧ i.toNat < n.toNat := by simpa [Instr.wellFormed] using hwf
  have fields := dataFrame_fields p i n chunk
  have indexByte : (dataFrame p i n chunk).getD 5 0 = i := by
    simpa [Nat.mod_eq_of_lt i.isLt] using getD_of_slice _ fields.index (by decide)
  have countByte : (dataFrame p i n chunk).getD 36 0 = n.setWidth 8 := getD_of_slice _ fields.count (by decide)
  have lenByte : (dataFrame p i n chunk).getD 4 0 = p.lenField := getD_of_slice _ fields.len (by decide)
  have countNat : (n.setWidth 8).toNat = n.toNat := by
    rw [BitVec.toNat_setWidth]
    omega
  have countBack : (n.setWidth 8).setWidth 9 = n := BitVec.eq_of_toNat_eq (by
    rw [BitVec.toNat_setWidth, countNat]
    omega)
  have chunkBack : chunkOfFrame (dataFrame p i n chunk) = chunk :=
    Vector.toList_inj.mp ((chunkOfFrame_toList _ (dataFrame_length ..)).trans fields.chunk)
  have body : sliceBytes (dataFrame p i n chunk) 0 242 = frameBody p i n chunk :=
    (bodyFields_iff p i n chunk _ (dataFrame_length ..)).mp fields
  have inFrame : ¬n.toNat ≤ i.toNat := by omega
  simp only [decodeData, dataFrame_length, indexByte, countByte, lenByte, countNat, countBack, chunkBack, body,
    fields.start, fields.index, fields.indexAgain, fields.hdrA, fields.hdrB, fields.hdrC, dataFrame_trailer,
    frameChecksum, inFrame, ne_eq, not_true_eq_false, if_false]

/-- A test of the decoder: an answer past it means that the test found nothing wrong. -/
theorem guarded_eq_ok_iff {c : Prop} [Decidable c] {e : DecodeError} {x : Except DecodeError Instr} {j : Instr} :
    (if c then .error e else x) = .ok j ↔ ¬c ∧ x = .ok j := by
  by_cases hc : c <;> simp [hc]

/-- R61 to R70: what passes every test of the decoder is a data frame with `i < N ≤ 255`. -/
theorem eq_dataFrame_of_decodeData {j : Instr} (h : decodeData p bytes = .ok j) :
    ∃ i n chunk, j = .data i n chunk ∧ j.wellFormed = true ∧ dataFrame p i n chunk = bytes := by
  simp only [decodeData, Config.frameBytes, guarded_eq_ok_iff, ne_eq, not_not, not_le] at h
  obtain ⟨hlength, hstart, hlen, hindex, hagain, hhdrA, hhdrB, hhdrC, hrange, htrailer, hj⟩ := h
  have count : ((bytes.getD 36 0).setWidth 9).setWidth 8 = bytes.getD 36 0 :=
    BitVec.setWidth_setWidth_of_le _ (by decide)
  have fields : BodyFields p (bytes.getD 5 0) ((bytes.getD 36 0).setWidth 9) (chunkOfFrame bytes) bytes :=
    { start := hstart
      len := by rw [sliceBytes_one bytes 4 (by omega), hlen]
      index := hindex
      hdrA := hhdrA
      count := by rw [sliceBytes_one bytes 36 (by omega), count]
      indexAgain := hagain.trans hindex
      hdrB := hhdrB
      hdrC := hhdrC
      chunk := (chunkOfFrame_toList bytes hlength).symm }
  have body := (bodyFields_iff _ _ _ _ _ hlength).mp fields
  rw [body] at htrailer
  have frame := (eq_dataFrame_iff _ _ _ _ _ hlength).mpr ⟨fields, htrailer⟩
  refine ⟨_, _, _, (Except.ok.inj hj).symm, ?_, frame.symm⟩
  have countFits := (bytes.getD 36 0).isLt
  rw [← Except.ok.inj hj]
  simp only [Instr.wellFormed, Config.nMax, BitVec.toNat_setWidth, Bool.and_eq_true, decide_eq_true_eq]
  omega

end Reading

end Sys2Proof
end

section
/-! The encoder and the decoder (30_encoding.md R58, R61, R71, R72) are inverse to each other on the well-formed
instructions; the issue of a control frame. -/

namespace Sys2Proof.Machine

/-! ### Commands and writes on the bus -/

section Codes

variable (p : Params)

theorem encode_toInstr (c : Command) : encode p c.toInstr = .bus (.wr 0x00#8 c.word) := by cases c <;> rfl

theorem wellFormed_toInstr (c : Command) : c.toInstr.wellFormed = true := by cases c <;> rfl

theorem decode_encode_toInstr (c : Command) : decode p (encode p c.toInstr) = .ok c.toInstr := by
  simp [encode_toInstr, decode, decodeBus]

/-- R60, R110: a well-formed write is no spelling of a command, so it is read as itself. -/
theorem decodeBus_wr (off : Byte) (d : Word) (hwf : (Instr.wr off d).wellFormed = true) :
    decodeBus (.wr off d) = .ok (.wr off d) := by
  by_cases h0 : off = 0x00#8
  · have noCommand : decodeCommand d = none := by simpa [Instr.wellFormed, h0] using hwf
    simp [decodeBus, h0, noCommand]
  · simp [decodeBus, h0]

/-- R72: each bus operation has one reading, and its encoding is the operation. -/
theorem encode_of_decodeBus {op : HostOp} {i : Instr} (h : decodeBus op = .ok i) :
    i.wellFormed = true ∧ encode p i = .bus op := by
  cases op with
  | none => cases h
  | rd off | rdb a | wrb a b | rdf k => cases h; exact ⟨rfl, rfl⟩
  | wr off d =>
    by_cases h0 : off = 0x00#8
    · subst h0
      cases hd : decodeCommand d with
      | none =>
        simp only [decodeBus, hd, if_true] at h
        cases h
        exact ⟨by simp [Instr.wellFormed, hd], rfl⟩
      | some c =>
        simp only [decodeBus, hd, if_true] at h
        cases h
        rw [encode_toInstr, (decodeCommand_eq_some_iff d c).mp hd]
        exact ⟨wellFormed_toInstr c, rfl⟩
    · simp only [decodeBus, h0, if_false] at h
      cases h
      exact ⟨by simp [Instr.wellFormed, h0], rfl⟩

/-! ### Frames -/

/-- R61, R71: a frame that is read is the encoding of what it is read as. -/
theorem encode_of_decodeFrame {kind : FrameKind} {bytes : List Byte} {i : Instr}
    (h : decodeFrame p kind bytes = .ok i) : i.wellFormed = true ∧ encode p i = .frame kind bytes := by
  cases kind with
  | data =>
    obtain ⟨j, n, chunk, rfl, hwf, rfl⟩ := eq_dataFrame_of_decodeData p bytes h
    exact ⟨hwf, rfl⟩
  | reset1 | reset2 | finalize =>
    simp only [decodeFrame] at h
    split at h
    · next hbytes => cases h; exact ⟨rfl, by rw [hbytes, encode]⟩
    · cases h

end Codes

/-! ### Both directions -/

/-- Settles O1, one case for each constructor: a command by its word, a data frame by its fields. -/
theorem decodeOfEncodeIsTheInstruction : Obligations.DecodeOfEncodeIsTheInstruction := by
  unfold Obligations.DecodeOfEncodeIsTheInstruction
  intro p i hwf
  cases i with
  | nop => exact decode_encode_toInstr p .nop
  | start => exact decode_encode_toInstr p .start
  | clear => exact decode_encode_toInstr p .clear
  | encode arg => exact decode_encode_toInstr p (.encode arg)
  | cksum => exact decode_encode_toInstr p .cksum
  | wr off d => exact decodeBus_wr off d hwf
  | rd off | rdb a | wrb a b | rdf k => rfl
  | data i n chunk => exact decodeData_dataFrame p i n chunk hwf
  | reset1 | reset2 | finalize => exact if_pos rfl

/-- Settles O2: what the decoder accepts comes from the bus or from a frame. -/
theorem encodeOfDecodeIsTheCode : Obligations.EncodeOfDecodeIsTheCode := by
  unfold Obligations.EncodeOfDecodeIsTheCode
  intro p c i h
  cases c with
  | bus op => exact encode_of_decodeBus p h
  | frame kind bytes => exact encode_of_decodeFrame p h

/-! ### Control frames -/

/-- Settles O24: each control frame is one `State.issue` of its parameter. -/
theorem controlFramesAreIssuedVerbatim : Obligations.ControlFramesAreIssuedVerbatim := by
  unfold Obligations.ControlFramesAreIssuedVerbatim
  intro s h e
  exact ⟨rfl, rfl, rfl⟩

end Sys2Proof.Machine
end

section
/-! The checksum engine (40_checksum.md): the triple of a reduction in terms of the byte sum, and the two places it is
used, the trailer of a data frame and the command CKSUM. -/

namespace Sys2Proof

/-! ### The two checksum functions and the triple (R75 to R78) -/

section Triple

variable (X : List Byte)

@[simp] theorem checksumMod256_toNat : (checksumMod256 X).toNat = byteSum X % 256 := by
  simp [checksumMod256]

/-- R78: TB by the sum of X alone, the checksum byte folded in. -/
theorem trailingByte_append_checksum :
    trailingByte (X ++ [checksumMod256 X]) = BitVec.ofNat 8 ((byteSum X + byteSum X % 256) / 256 % 256) := by
  simp [trailingByte, byteSum_append]

/-- R77: SUM16 is the accumulator before CK is folded in. -/
theorem reduceBytes_sum16 : (reduceBytes X).sum16 = BitVec.ofNat 16 (byteSum X % 65536) := by
  apply BitVec.eq_of_toNat_eq
  simp [reduceBytes, accumulate_toNat]

/-- R77, for one byte string: the reduction by the two checksum functions. -/
theorem reduceBytes_eq :
    reduceBytes X =
      ⟨checksumMod256 X, trailingByte (X ++ [checksumMod256 X]), BitVec.ofNat 16 (byteSum X % 65536)⟩ := by
  rw [← reduceBytes_ck, ← reduceBytes_tb, ← reduceBytes_sum16]

theorem reduceBytes_ck_toNat : (reduceBytes X).ck.toNat = byteSum X % 256 := by
  rw [reduceBytes_ck, checksumMod256_toNat]

theorem reduceBytes_tb_toNat : (reduceBytes X).tb.toNat = (byteSum X + byteSum X % 256) / 256 % 256 := by
  rw [reduceBytes_tb, reduceBytes_ck, trailingByte_append_checksum, BitVec.toNat_ofNat, Nat.mod_mod]

theorem reduceBytes_sum16_toNat : (reduceBytes X).sum16.toNat = byteSum X % 65536 := by
  rw [reduceBytes_sum16, BitVec.toNat_ofNat, Nat.mod_mod]

end Triple

/-- R78: folding the low byte of a sum in again carries into the high byte exactly when the low byte is 128 or more. -/
theorem div_256_add_low_byte (S : Nat) : (S + S % 256) / 256 = S / 256 + if 128 ≤ S % 256 then 1 else 0 := by
  split <;> omega

/-- R34, R78: SUM16, TB and CK at bits 31..16, 15..8 and 7..0. -/
theorem CksResult.word_toNat (r : CksResult) :
    r.word.toNat = r.sum16.toNat * 65536 + r.tb.toNat * 256 + r.ck.toNat := by
  rw [CksResult.word, BitVec.toNat_append, BitVec.toNat_append, ← Nat.shiftLeft_add_eq_or_of_lt r.ck.isLt,
    ← Nat.shiftLeft_add_eq_or_of_lt r.tb.isLt, Nat.shiftLeft_eq, Nat.shiftLeft_eq]
  omega

/-- Settles O8: the accumulator's low byte is CK, and adding CK to it leaves TB in the high byte. -/
theorem reductionComputesBothChecksums : Obligations.ReductionComputesBothChecksums :=
  reduceBytes_eq

/-- Settles O9, the second form of TB by the carry of the low byte. -/
theorem reductionTriple : Obligations.ReductionTriple := by
  unfold Obligations.ReductionTriple
  intro X S r
  refine ⟨reduceBytes_ck_toNat X, reduceBytes_tb_toNat X, reduceBytes_sum16_toNat X, ?_, r.word_toNat⟩
  rw [← div_256_add_low_byte]
  exact reduceBytes_tb_toNat X

/-! ### The trailer of a data frame (R79) -/

/-- Settles O10: 243 bytes of at most 255 sum to at most 61965, so neither the 16-bit sum nor TB loses a carry. -/
theorem dataFrameSumNeverWraps : Obligations.DataFrameSumNeverWraps := by
  unfold Obligations.DataFrameSumNeverWraps
  intro p i n c Y
  have bound : byteSum Y ≤ 61965 := by
    have := byteSum_le Y
    simpa [Y] using this
  have checked : byteSum Y = byteSum (frameBody p i n c) + byteSum (frameBody p i n c) % 256 := by
    simp [Y, dataFrame_take_checked, byteSum_append, frameChecksum, reduceBytes_ck_toNat]
  refine ⟨bound, ?_, ?_⟩
  · rw [frameChecksum, reduceBytes_tb_toNat, ← checked]
    omega
  · rw [frameChecksum, reduceBytes_sum16_toNat, dataFrame_take_body]
    omega

end Sys2Proof

namespace Sys2Proof.Machine

/-! ### The command CKSUM (R81) -/

/-- R81 past the busy check of R60. -/
theorem exec_cksum_of_stable (s : State) (stable : s.busy = false) :
    exec .cksum s =
      .next (if Config.payloadMax < s.cksAddr.toNat + s.cksLen.toNat then s.setCmdErr .range
        else { s with cksResult := reduceBytes (s.rangePB s.cksAddr.toNat s.cksLen.toNat) }.setCmdErr .ok) :=
  congrArg Host.Outcome.next (State.whenStable_of_stable s _ stable)

/-- Settles O18: busy, out of range and in range in the order CKSUM tests them. -/
theorem cksumReducesTheRangeOrReportsRange : Obligations.CksumReducesTheRangeOrReportsRange := by
  unfold Obligations.CksumReducesTheRangeOrReportsRange
  intro s A n S
  refine ⟨decodeCommand_word .cksum, fun busy => runCommand_busy s busy .cksum, fun stable outside => ?_,
    fun stable inside => ?_⟩
  · rw [exec_cksum_of_stable s stable, if_pos outside]
    rfl
  · rw [exec_cksum_of_stable s stable, if_neg (Nat.not_lt.mpr inside), reduceBytes_eq, trailingByte_append_checksum]
    rfl

end Sys2Proof.Machine
end

section
/-! The frame encoder (41_frame_encoder.md): the chunk count, the chunks as the zero-padded payload, the header of a data
frame, and the two operations that encode one, the command ENCODE and the sequencer's DATA. -/

namespace Sys2Proof

/-! ### The header of a session's frames (R85) -/

/-- R64: the high byte of an index below 256 is 0. -/
theorem indexField_eq (p : Params) (i : Byte) : indexField p i = [i, 0, p.idxPad] := by
  rw [indexField, Nat.div_eq_of_lt i.isLt, Nat.mod_eq_of_lt i.isLt, BitVec.ofNat_toNat, BitVec.setWidth_eq]
  rfl

/-- R61: the index stands in the header at offsets 5 and 37 alone. -/
theorem headerBytes_eq_set (p : Params) (i j : Byte) (n : BitVec 9) :
    headerBytes p j n = ((headerBytes p i n).set 5 j).set 37 j := by
  simp [headerBytes, indexField_eq]

/-- R61: the header is the first 46 bytes of the frame. -/
theorem getElem?_dataFrame_header (p : Params) (i : Byte) (n : BitVec 9) (chunk : Vector Byte 196) (k : Nat)
    (hk : k < 46) : (dataFrame p i n chunk)[k]? = (headerBytes p i n)[k]? := by
  rw [dataFrame, frameBody, List.append_assoc, List.getElem?_append_left (by simpa using hk)]

/-- Settles O13: below offset 46 stands the header, of which another index writes only offsets 5 and 37. -/
theorem framesOfASessionDifferOnlyInIndexChunkTrailer : Obligations.FramesOfASessionDifferOnlyInIndexChunkTrailer := by
  unfold Obligations.FramesOfASessionDifferOnlyInIndexChunkTrailer
  intro p i j n c d k hk h5 h37
  rw [getElem?_dataFrame_header p i n c k hk, getElem?_dataFrame_header p j n d k hk, headerBytes_eq_set p i j n,
    List.getElem?_set_ne h37.symm, List.getElem?_set_ne h5.symm]

end Sys2Proof

namespace Sys2Proof.Machine

open Sys2Proof.Safety

/-! ### The chunk count (R82, R83) -/

/-- Settles O11: a 16-bit L keeps the quotient below 2^9. -/
theorem chunkCountIsExactAndBounded : Obligations.ChunkCountIsExactAndBounded := by
  unfold Obligations.ChunkCountIsExactAndBounded
  intro s
  have count := s.nchunk_toNat
  have len := s.payloadLen.isLt
  exact ⟨count, by omega, by omega⟩

/-! ### The chunks (R84) -/

section Chunks

variable (s : State)

/-- Byte `a` of the payload and of the zeros after it. -/
def State.paddedByte (a : Nat) : Byte := if a < s.payloadLen.toNat then s.readPB a else 0

theorem State.chunk_getElem (i k : Nat) (hk : k < 196) : (s.chunk i)[k] = s.paddedByte (196 * i + k) := by
  simp [State.chunk, State.chunkByte, State.paddedByte]

/-- The first `n` chunks one after another. -/
theorem State.flatten_chunks (n : Nat) :
    ((List.range n).map fun i => (s.chunk i).toList).flatten = (List.range (196 * n)).map s.paddedByte := by
  induction n with
  | zero => rfl
  | succ n ih =>
    have last : (s.chunk n).toList = ((List.range 196).map (196 * n + ·)).map s.paddedByte := by
      rw [s.chunk_toList, List.map_map]
      rfl
    rw [List.range_succ, List.map_append, List.flatten_append, ih, Nat.mul_succ, List.range_add, List.map_append, ← last]
    simp

/-- The payload and `m` bytes beyond it. -/
theorem State.map_paddedByte_range (m : Nat) :
    (List.range (s.payloadLen.toNat + m)).map s.paddedByte = rawPayload s ++ List.replicate m 0 := by
  have payload : (List.range s.payloadLen.toNat).map s.paddedByte = rawPayload s :=
    List.map_congr_left fun a ha => by simp [State.paddedByte, List.mem_range.mp ha]
  have padding : ((List.range m).map (s.payloadLen.toNat + ·)).map s.paddedByte = List.replicate m 0 := by
    simp [List.eq_replicate_iff, State.paddedByte]
  rw [List.range_add, List.map_append, payload, padding]

/-- R82, R84: the N chunks hold the payload. -/
theorem State.payloadLen_le_chunks : s.payloadLen.toNat ≤ 196 * s.nchunk.toNat := by
  have := s.nchunk_toNat
  omega

end Chunks

/-- Settles O12: the N chunks are the padded bytes below 196 N, of which the first L are the payload. -/
theorem chunksAreThePayloadZeroPadded : Obligations.ChunksAreThePayloadZeroPadded := by
  unfold Obligations.ChunksAreThePayloadZeroPadded
  intro s
  refine ⟨fun i k => s.chunk_getElem i k k.isLt, ?_, ?_⟩
  · rw [s.flatten_chunks, ← s.map_paddedByte_range, Nat.add_sub_cancel' s.payloadLen_le_chunks]
  · have := s.nchunk_toNat
    omega

/-! ### Encoding a data frame (R85, R87, R98) -/

theorem not_inRange_iff (i : Byte) (n : BitVec 9) : ¬inRange i n = true ↔ 255 < n.toNat ∨ n.toNat ≤ i.toNat := by
  rw [inRange_iff]
  omega

/-- R85: FB reads as the frame it was filled with. -/
theorem State.storeDataFrame_read_fb (s : State) (i : Byte) (n : BitVec 9) (chunk : Vector Byte 196) (k : Nat) :
    Memory.read (s.storeDataFrame i n chunk).fb k = (dataFrame s.params i n chunk)[k]? :=
  Memory.read_ofBytes _ k

/-- R87 past the busy check of R60. -/
theorem exec_encode_of_stable (s : State) (arg : Byte) (stable : s.busy = false) :
    exec (.encode arg) s =
      .next (if inRange arg s.nchunk then (s.storeDataFrame arg s.nchunk (s.chunk arg.toNat)).setCmdErr .ok
        else s.setCmdErr .index) :=
  congrArg Host.Outcome.next (State.whenStable_of_stable s _ stable)

/-- Settles O17: busy, out of range and in range in the order ENCODE tests them. -/
theorem encodeFillsTheFrameBufferOrReportsIndex : Obligations.EncodeFillsTheFrameBufferOrReportsIndex := by
  unfold Obligations.EncodeFillsTheFrameBufferOrReportsIndex
  intro s arg N
  have count : s.nchunk.toNat = N := s.nchunk_toNat
  refine ⟨decodeCommand_word (.encode arg), fun busy => runCommand_busy s busy (.encode arg), fun stable outside => ?_,
    fun stable few below => ?_⟩
  · rw [exec_encode_of_stable s arg stable, if_neg ((not_inRange_iff ..).mpr (count ▸ outside))]
    rfl
  · rw [exec_encode_of_stable s arg stable, if_pos ((inRange_iff ..).mpr (count ▸ ⟨few, below⟩))]
    exact ⟨_, rfl, s.storeDataFrame_read_fb arg s.nchunk (s.chunk arg.toNat)⟩

/-- Settles O25: DATA tests its range only. -/
theorem dataFrameIsStoredAndIssued : Obligations.DataFrameIsStoredAndIssued := by
  unfold Obligations.DataFrameIsStoredAndIssued
  intro s i n c
  refine ⟨fun few below => ?_, fun outside => ?_⟩
  · have issued : exec (.data i n c) s = .next (s.issueData i n c) :=
      congrArg Host.Outcome.next (if_pos ((inRange_iff i n).mpr ⟨few, below⟩))
    exact ⟨_, issued, s.storeDataFrame_read_fb i n c⟩
  · exact congrArg Host.Outcome.next (if_neg ((not_inRange_iff i n).mpr outside))

end Sys2Proof.Machine
end

section
/-! The commands START and CLEAR (42_flow_control.md R89, R90). -/

namespace Sys2Proof.Machine

open Sys2Proof.Safety

/-- R60, R89: outside IDLE, busy or not, START is refused. -/
theorem exec_start_of_not_idle (s : State) (hs : s.st ≠ .idle) : exec .start s = .next (s.setCmdErr .badState) := by
  cases hb : s.busy with
  | true => exact runCommand_busy s hb .start
  | false => simp only [exec, execStart, State.whenStable_of_stable s _ hb, if_neg hs]

/-- R89: in IDLE, START begins a session. -/
theorem exec_start_of_idle (s : State) (hs : s.st = .idle) : exec .start s = .next s.beginSession := by
  have hb : s.busy = false := by simp [State.busy_eq, hs, SeqState.stable]
  simp only [exec, execStart, State.whenStable_of_stable s _ hb, if_pos hs]

/-- Settles O15: START in IDLE takes one of its three ways, told apart by L and N. -/
theorem startChecksTheSizeThenConnects : Obligations.StartChecksTheSizeThenConnects := by
  unfold Obligations.StartChecksTheSizeThenConnects
  intro s L N
  have count : s.nchunk.toNat = N := s.nchunk_toNat
  refine ⟨decodeCommand_word .start, exec_start_of_not_idle s, fun hs hconn hidx => ?_⟩
  rw [exec_start_of_idle s hs]
  obtain ⟨hL, h⟩ | ⟨hL, hN, h⟩ | ⟨hL, hN, h⟩ := s.beginSession_cases
  · have empty : L = 0 := hL
    simp [h, empty, State.raiseFail_eq, hs, hconn, hidx, State.zeroSession_eq, State.setCmdErr]
  · have nonempty : ¬L = 0 := hL
    have large : 255 < N := count ▸ hN
    simp [h, nonempty, large, State.raiseFail_eq, hs, hconn, hidx, State.zeroSession_eq, State.setCmdErr]
  · have nonempty : ¬L = 0 := hL
    have fits : ¬255 < N := by omega
    simp [h, nonempty, fits, State.zeroSession_eq, State.setCmdErr, State.emitConnect, State.moveTo]

/-- Settles O16: CLEAR is `clearSession` past the busy check. -/
theorem clearReturnsToIdle : Obligations.ClearReturnsToIdle := by
  unfold Obligations.ClearReturnsToIdle
  intro s
  refine ⟨decodeCommand_word .clear, connUp_of_stable, fun busy => runCommand_busy s busy .clear, fun stable => ?_⟩
  refine ⟨s.clearSession, congrArg Host.Outcome.next (State.whenStable_of_stable s _ stable), ?_, rfl⟩
  simp [State.irq]

end Sys2Proof.Machine
end

section
/-! One clock cycle (42_flow_control.md R88, R91, R121): its parts, and what a cycle that starts in a stable state can
do. -/

namespace Sys2Proof.Machine

open Sys2Proof.Safety

variable {s t u v : State} {st : SeqState}

/-! ### The parts of a cycle -/

/-- R88: a cycle without reset is the host's part, the rule of the STATE it started in, and the end of the cycle. -/
theorem step_of_no_reset (hr : s.input.rst = false) :
    step s = andThen (hostPart s) fun u => andThen (sequencerRule s.st u) fun v => .next v.endCycle := by
  simp only [step, hr, Bool.false_eq_true, ↓reduceIte]
  rfl

theorem hostPart_of_decoded {i : Instr} (h : decodeBus s.input.hop = .ok i) : hostPart s = exec i s.beginCycle := by
  have fetched : s.fetched = some i := by simp only [State.fetched, h]
  simp only [hostPart, fetched]

theorem hostPart_of_no_operation (h : s.input.hop = .none) : hostPart s = .next s.beginCycle := by
  have idle : s.fetched = none := by simp only [State.fetched, h, decodeBus]
  simp only [hostPart, idle]

/-- The host's part never stops the machine. -/
theorem hostPart_next (s : State) : ∃ u, hostPart s = .next u := by
  cases hf : s.fetched with
  | none => exact ⟨s.beginCycle, by simp only [hostPart, hf]⟩
  | some i =>
    simp only [hostPart, hf]
    cases hc : commandOf i with
    | none =>
      obtain ⟨c, len, ta, sd, a, l, e, m, r, h, -⟩ := exec_plain i s.beginCycle (s.fetched_host i hf) hc
      exact ⟨_, h⟩
    | some c =>
      rw [exec_command i c _ hc]
      cases c <;> exact ⟨_, rfl⟩

theorem sequencerRule_of_stable (h : st.stable = true) (s : State) : sequencerRule st s = .next s := by
  cases st with
  | idle | completed | failed => rfl
  | connecting | subscribing | connected | resetWr1 | resetSettle | resetWr2 | xferSend | xferWr | xferWait | finWr1
  | finWr2 => cases h

/-- Settles O33: the decoded instruction is the host's part. -/
theorem stepRunsTheDecodedInstruction : Obligations.StepRunsTheDecodedInstruction := by
  unfold Obligations.StepRunsTheDecodedInstruction
  intro s i hr hop
  rw [step_of_no_reset hr, hostPart_of_decoded hop]

/-- Settles O36: the rule of a stable STATE is no rule. -/
theorem stableStatesRunNoRule : Obligations.StableStatesRunNoRule := by
  unfold Obligations.StableStatesRunNoRule
  intro s u hb hr hu
  exact step_of_parts s u u hr hu (sequencerRule_of_stable (by simpa [State.busy_eq] using hb) u)

/-- Settles O49: of the host's operations only START in IDLE and CLEAR write STATE, and CLEAR leads to IDLE. -/
theorem stableStatesLeftOnlyByCommand : Obligations.StableStatesLeftOnlyByCommand := by
  unfold Obligations.StableStatesLeftOnlyByCommand
  intro s t hb hstep moved
  cases hr : s.input.rst with
  | true => exact .inl rfl
  | false =>
    obtain ⟨u, hu, rfl⟩ := step_stable s t hb hr hstep
    obtain ⟨c, len, ta, sd, a, l, e, m, r, rfl, -⟩ | ⟨arg, -, rfl⟩ | ⟨q, rfl⟩ | ⟨hs, hop, rfl⟩ | ⟨hop, rfl⟩ :=
      hostPart_stable s u hb hu
    · exact absurd rfl moved
    · exact absurd rfl moved
    · exact absurd rfl moved
    · exact .inr (.inl ⟨hs, hop⟩)
    · exact .inr (.inr ⟨moved.symm, hop⟩)

/-! ### The inputs and ACK_LATCH over a cycle (R18) -/

theorem sequencerRule_inputs (hv : sequencerRule st s = .next v) : v.inputs = s.inputs := by
  cases st with
  | idle | connected | completed | failed => cases hv; rfl
  | connecting => rw [sequencerRule, ruleConnecting_eq] at hv; cases hv; split <;> simp
  | subscribing => rw [sequencerRule, ruleSubscribing_eq] at hv; cases hv; split_ifs <;> simp
  | resetWr1 => rw [sequencerRule, ruleResetWr1_eq] at hv; cases hv; split <;> simp
  | resetSettle => rw [sequencerRule, ruleResetSettle_eq] at hv; cases hv; split_ifs <;> simp
  | resetWr2 => rw [sequencerRule, ruleResetWr2_eq] at hv; cases hv; split <;> simp
  | xferSend => rw [sequencerRule, ruleXferSend_eq] at hv; cases hv; split_ifs <;> simp
  | xferWr => rw [sequencerRule, ruleXferWr_eq] at hv; cases hv; split <;> simp
  | xferWait => rw [sequencerRule, ruleXferWait_eq] at hv; cases hv; split_ifs <;> simp
  | finWr1 => rw [sequencerRule, ruleFinWr1_eq] at hv; cases hv; split <;> simp
  | finWr2 => rw [sequencerRule, ruleFinWr2_eq] at hv; cases hv; split <;> simp

/-- R98 alone of the sequencer's rules assigns ACK_LATCH, and only when it sends. -/
theorem sequencerRule_latch (hsend : ¬(st = .xferSend ∧ inRange s.idx s.nchunk = true))
    (hv : sequencerRule st s = .next v) : v.ackLatch = s.ackLatch ∧ v.latchAssigned = s.latchAssigned := by
  cases st with
  | idle | connected | completed | failed => cases hv; exact ⟨rfl, rfl⟩
  | connecting => rw [sequencerRule, ruleConnecting_eq] at hv; cases hv; split <;> simp
  | subscribing => rw [sequencerRule, ruleSubscribing_eq] at hv; cases hv; split_ifs <;> simp
  | resetWr1 => rw [sequencerRule, ruleResetWr1_eq] at hv; cases hv; split <;> simp
  | resetSettle => rw [sequencerRule, ruleResetSettle_eq] at hv; cases hv; split_ifs <;> simp
  | resetWr2 => rw [sequencerRule, ruleResetWr2_eq] at hv; cases hv; split <;> simp
  | xferSend => rw [sequencerRule, ruleXferSend_eq, if_neg (hsend ⟨rfl, ·⟩)] at hv; cases hv; simp
  | xferWr => rw [sequencerRule, ruleXferWr_eq] at hv; cases hv; split <;> simp
  | xferWait => rw [sequencerRule, ruleXferWait_eq] at hv; cases hv; split_ifs <;> simp
  | finWr1 => rw [sequencerRule, ruleFinWr1_eq] at hv; cases hv; split <;> simp
  | finWr2 => rw [sequencerRule, ruleFinWr2_eq] at hv; cases hv; split <;> simp

/-- The default update, where nothing in the cycle has assigned the latch. -/
theorem endCycle_ackLatch_default (hassigned : u.latchAssigned = false) (hlatch : u.ackLatch = s.ackLatch)
    (hinput : u.input = s.input) : u.endCycle.ackLatch = (s.ackLatch || s.input.ntf0 || s.input.ntf1) := by
  simp [hassigned, hlatch, hinput, CycleIn.ackIn, Bool.or_assoc]

theorem endCycle_ackLatch_assigned (hassigned : u.latchAssigned = true) : u.endCycle.ackLatch = u.ackLatch := by
  simp [hassigned]

theorem beginSession_latch (s : State) : s.beginSession.ackLatch = false ∧ s.beginSession.latchAssigned = true := by
  obtain ⟨-, h⟩ | ⟨-, -, h⟩ | ⟨-, -, h⟩ := s.beginSession_cases <;> simp [h]

/-- Settles O35: a busy cycle assigns the latch only when it sends a data frame, a stable one only by START or CLEAR. -/
theorem ackLatchUpdate : Obligations.AckLatchUpdate := by
  unfold Obligations.AckLatchUpdate
  intro s t hr hstep
  cases hb : s.busy with
  | true =>
    have notIdle : s.st ≠ .idle := (s.busy_iff.mp hb).1
    obtain ⟨c, a, l, e, r, v, hv, rfl⟩ := step_busy s t hb hr hstep
    by_cases hsend : s.st = .xferSend ∧ inRange s.idx s.nchunk = true
    · obtain ⟨hst, hin⟩ := hsend
      have bounds := (inRange_iff _ _).mp hin
      rw [if_pos ⟨hst, bounds.2, bounds.1⟩]
      rw [hst, sequencerRule, ruleXferSend_eq, if_pos (by simpa using hin)] at hv
      cases hv
      rfl
    · rw [if_neg (fun h => hsend ⟨h.1, (inRange_iff _ _).mpr ⟨h.2.2, h.2.1⟩⟩), if_neg (by simp [notIdle])]
      obtain ⟨hlatch, hassigned⟩ := sequencerRule_latch (s := s.beginCycle.hostWrites c a l e r) hsend hv
      exact endCycle_ackLatch_default hassigned hlatch (congrArg (·.headD {}) (sequencerRule_inputs hv))
  | false =>
    obtain ⟨u, hu, rfl⟩ := step_stable s t hb hr hstep
    have notSending : s.st ≠ .xferSend := fun h => by simp [State.busy_eq, h, SeqState.stable] at hb
    rw [if_neg (fun h => notSending h.1)]
    by_cases hstart : s.st = .idle ∧ s.input.hop = .wr 0x00#8 0x00000001#32
    · rw [if_pos (.inl hstart)]
      rw [hostPart_start s hstart.1 hstart.2] at hu
      cases hu
      obtain ⟨hlatch, hassigned⟩ := beginSession_latch s.beginCycle
      rw [endCycle_ackLatch_assigned hassigned, hlatch]
    · by_cases hclear : s.input.hop = .wr 0x00#8 0x00000002#32
      · rw [if_pos (.inr ⟨rfl, hclear⟩)]
        rw [hostPart_clear s hb hclear] at hu
        cases hu
        rfl
      · rw [if_neg (by tauto)]
        obtain ⟨hassigned, hlatch, hinput, -⟩ := hostPart_stable_other s u hb hu hstart hclear
        exact endCycle_ackLatch_default hassigned hlatch hinput

end Sys2Proof.Machine
end

section
/-! The rules of the busy states (42_flow_control.md R92 to R102), each run on what the host's part of the cycle leaves:
what a rule reads stands there as it did at the start of the cycle, since the host writes none of it while busy. -/

namespace Sys2Proof.Machine

open Sys2Proof.Safety

variable {s u v : State} {st : SeqState}

theorem State.busy_of_st (hst : s.st = st) (h : st.stable = false) : s.busy = true := by
  simp [State.busy_eq, hst, h]

/-- Settles O39: the three answers of `conn_rsp`; without a connection the failure entry emits no `disc_req`. -/
theorem connectingTakesTheConnectAnswer : Obligations.ConnectingTakesTheConnectAnswer := by
  unfold Obligations.ConnectingTakesTheConnectAnswer
  intro s u hst hconn hr hu
  obtain ⟨c, a, l, e, r, rfl⟩ := hostPart_busy s u (State.busy_of_st hst rfl) hu
  refine step_of_parts s _ _ hr hu ?_
  rw [hst, sequencerRule, ruleConnecting_eq]
  simp only [State.hostWrites_input, State.beginCycle_input]
  cases s.input.connRsp with
  | ok | none => rfl
  | err => simp [State.raiseFail_eq, hst, hconn]

/-- R93: SUB_OK after the answers of a cycle, bit by bit. -/
theorem subOkNext_eq (s : State) :
    s.subOkNext = BitVec.ofBool (s.subOk.getLsbD 1 || decide (s.input.subRsp1 = .ok)) ++
      BitVec.ofBool (s.subOk.getLsbD 0 || decide (s.input.subRsp0 = .ok)) := by
  simp only [State.subOkNext, beq_eq_decide]
  generalize decide (s.input.subRsp0 = .ok) = b0
  generalize decide (s.input.subRsp1 = .ok) = b1
  generalize s.subOk = v
  revert b0 b1 v
  decide

theorem subFails_iff (s : State) :
    s.subFails = true ↔ s.input.subRsp0 = .err ∧ s.subOk.getLsbD 0 = false ∨
      s.input.subRsp1 = .err ∧ s.subOk.getLsbD 1 = false := by
  simp [State.subFails]

theorem bits_append_eq_both (b0 b1 : Bool) :
    BitVec.ofBool b1 ++ BitVec.ofBool b0 = 0b11#2 ↔ b0 = true ∧ b1 = true := by
  revert b0 b1; decide

/-- Settles O40: an awaited ERR is `subFails`; otherwise SUB_OK takes the OK answers. -/
theorem subscribingWaitsForBothAnswers : Obligations.SubscribingWaitsForBothAnswers := by
  unfold Obligations.SubscribingWaitsForBothAnswers
  intro s u hst hr hu b0 b1 failed0 failed1
  obtain ⟨c, a, l, e, r, rfl⟩ := hostPart_busy s u (State.busy_of_st hst rfl) hu
  have fails_iff : (s.beginCycle.hostWrites c a l e r).subFails = true ↔ failed0 ∨ failed1 := subFails_iff _
  have next : (s.beginCycle.hostWrites c a l e r).subOkNext = BitVec.ofBool b1 ++ BitVec.ofBool b0 := subOkNext_eq _
  refine ⟨fun hfail => step_of_parts s _ _ hr hu ?_, fun hfail => step_of_parts s _ _ hr hu ?_⟩
  · rw [hst, sequencerRule, ruleSubscribing_eq, if_pos (fails_iff.mpr hfail), State.raiseFail_hostWrites]
  · rw [hst, sequencerRule, ruleSubscribing_eq, if_neg (mt fails_iff.mp hfail), next]
    simp only [bits_append_eq_both]
    split_ifs
    · rfl
    · rw [← hst]; rfl

/-- Settles O41: the one rule with no condition. -/
theorem connectedIssuesReset1 : Obligations.ConnectedIssuesReset1 := by
  unfold Obligations.ConnectedIssuesReset1
  intro s u hst hr hu
  obtain ⟨c, a, l, e, r, rfl⟩ := hostPart_busy s u (State.busy_of_st hst rfl) hu
  exact step_of_parts s _ _ hr hu (by rw [hst, sequencerRule, ruleConnected_eq]; rfl)

/-! ### The states with a write outstanding (R95, R97, R99, R101, R102) -/

theorem busy_of_outstandingTx (h : outstandingTx s.st = true) : s.busy = true := by
  rw [State.busy_eq]
  revert h
  cases s.st <;> decide

/-- While a write is outstanding its answer alone counts: none holds the state. -/
theorem sequencerRule_txDone_none (h : outstandingTx st = true) (hnone : s.input.txDone = .none) :
    sequencerRule st s = .next s := by
  cases st with
  | resetWr1 => rw [sequencerRule, ruleResetWr1_eq, hnone]
  | resetWr2 => rw [sequencerRule, ruleResetWr2_eq, hnone]
  | xferWr => rw [sequencerRule, ruleXferWr_eq, hnone]
  | finWr1 => rw [sequencerRule, ruleFinWr1_eq, hnone]
  | finWr2 => rw [sequencerRule, ruleFinWr2_eq, hnone]
  | idle | connecting | subscribing | connected | resetSettle | xferSend | xferWait | completed | failed => cases h

/-- ERR takes the failure entry with TransportWriteError. -/
theorem sequencerRule_txDone_err (h : outstandingTx st = true) (herr : s.input.txDone = .err) :
    sequencerRule st s = .next (s.raiseFail s .transportWriteError) := by
  cases st with
  | resetWr1 => rw [sequencerRule, ruleResetWr1_eq, herr]
  | resetWr2 => rw [sequencerRule, ruleResetWr2_eq, herr]
  | xferWr => rw [sequencerRule, ruleXferWr_eq, herr]
  | finWr1 => rw [sequencerRule, ruleFinWr1_eq, herr]
  | finWr2 => rw [sequencerRule, ruleFinWr2_eq, herr]
  | idle | connecting | subscribing | connected | resetSettle | xferSend | xferWait | completed | failed => cases h

/-- What the cycle of an outstanding write comes to when its answer is not OK. -/
theorem step_of_write_not_done (h : outstandingTx s.st = true) (hr : s.input.rst = false) (hu : hostPart s = .next u) :
    (s.input.txDone = .err → step s = .next (u.raiseFail s .transportWriteError).endCycle) ∧
      (s.input.txDone = .none → step s = .next u.endCycle) := by
  obtain ⟨c, a, l, e, r, rfl⟩ := hostPart_busy s u (busy_of_outstandingTx h) hu
  refine ⟨fun herr => step_of_parts s _ _ hr hu ?_, fun hnone => step_of_parts s _ _ hr hu ?_⟩
  · rw [sequencerRule_txDone_err h (by simpa using herr), State.raiseFail_hostWrites]
  · exact sequencerRule_txDone_none h (by simpa using hnone)

/-- Settles O42: OK is the one answer in which the three states differ. -/
theorem writeStatesWaitForTxDone : Obligations.WriteStatesWaitForTxDone := by
  unfold Obligations.WriteStatesWaitForTxDone
  intro s u hst hr hu
  have outstanding : outstandingTx s.st = true := by obtain h | h | h := hst <;> rw [h] <;> rfl
  obtain ⟨onErr, onNone⟩ := step_of_write_not_done outstanding hr hu
  obtain ⟨c, a, l, e, r, rfl⟩ := hostPart_busy s u (busy_of_outstandingTx outstanding) hu
  refine ⟨onErr, onNone, fun hok hs => ?_, fun hok hs => ?_, fun hok hs => ?_⟩ <;> refine step_of_parts s _ _ hr hu ?_
  · rw [hs, sequencerRule, ruleResetWr1_eq, State.hostWrites_input, State.beginCycle_input, hok]; rfl
  · rw [hs, sequencerRule, ruleResetWr2_eq, State.hostWrites_input, State.beginCycle_input, hok]; rfl
  · rw [hs, sequencerRule, ruleXferWr_eq, State.hostWrites_input, State.beginCycle_input, hok]; rfl

/-- Settles O46: as in the other write states, but for OK. -/
theorem finalizeTwiceThenComplete : Obligations.FinalizeTwiceThenComplete := by
  unfold Obligations.FinalizeTwiceThenComplete
  intro s u hst hr hu
  have outstanding : outstandingTx s.st = true := by obtain h | h := hst <;> rw [h] <;> rfl
  obtain ⟨onErr, onNone⟩ := step_of_write_not_done outstanding hr hu
  obtain ⟨c, a, l, e, r, rfl⟩ := hostPart_busy s u (busy_of_outstandingTx outstanding) hu
  refine ⟨onErr, onNone, fun hok hs => ?_, fun hok hs => ?_⟩ <;> refine step_of_parts s _ _ hr hu ?_
  · rw [hs, sequencerRule, ruleFinWr1_eq, State.hostWrites_input, State.beginCycle_input, hok]; rfl
  · rw [hs, sequencerRule, ruleFinWr2_eq, State.hostWrites_input, State.beginCycle_input, hok]; rfl

/-! ### The timed states and the send (R96, R98, R100) -/

/-- Settles O43: the rule's two tests, the tick and the limit. -/
theorem resetSettleIssuesReset2OnTheLimitTick : Obligations.ResetSettleIssuesReset2OnTheLimitTick := by
  unfold Obligations.ResetSettleIssuesReset2OnTheLimitTick
  intro s u hst hr hu
  obtain ⟨c, a, l, e, r, rfl⟩ := hostPart_busy s u (State.busy_of_st hst rfl) hu
  refine ⟨fun noTick => ?_, fun tick below => ?_, fun tick limit => ?_⟩ <;> refine step_of_parts s _ _ hr hu ?_ <;>
    rw [hst, sequencerRule, ruleResetSettle_eq]
  · simp [noTick]
  · simp [tick, Nat.not_le.mpr below]; rfl
  · simp [tick, limit]; rfl

/-- Settles O44: in range the rule issues the frame of `issueData`, out of range it takes the failure entry. -/
theorem xferSendIssuesThePacket : Obligations.XferSendIssuesThePacket := by
  unfold Obligations.XferSendIssuesThePacket
  intro s u hst hr hu F
  obtain ⟨c, a, l, e, r, rfl⟩ := hostPart_busy s u (State.busy_of_st hst rfl) hu
  refine ⟨fun few below => ⟨_, step_of_parts s _ _ hr hu ?_, Memory.read_ofBytes F⟩,
    fun outside => step_of_parts s _ _ hr hu ?_⟩ <;> rw [hst, sequencerRule, ruleXferSend_eq]
  · rw [if_pos]
    · rfl
    · exact (inRange_iff ..).mpr ⟨few, below⟩
  · rw [if_neg, State.raiseFail_hostWrites]
    exact (not_inRange_iff ..).mpr outside

/-- Settles O45: the rule's tests in their order, the acknowledgment before the tick. -/
theorem xferWaitTakesAckThenTick : Obligations.XferWaitTakesAckThenTick := by
  unfold Obligations.XferWaitTakesAckThenTick
  intro s u hst hr hu acked
  obtain ⟨c, a, l, e, r, rfl⟩ := hostPart_busy s u (State.busy_of_st hst rfl) hu
  have ackedEq : (s.ackLatch || s.input.ackIn) = acked := (Bool.or_assoc ..).symm
  have rule := ruleXferWait_eq (s.beginCycle.hostWrites c a l e r)
  simp only [State.hostWrites_ackLatch, State.hostWrites_input, State.beginCycle_ackLatch, State.beginCycle_input,
    ackedEq] at rule
  refine ⟨fun hack last => ?_, fun hack notLast => ?_, fun hack noTick => ?_, fun hack tick below => ?_,
    fun hack tick limit => ?_⟩ <;> refine step_of_parts s _ _ hr hu ?_ <;> rw [hst, sequencerRule, rule]
  · simp [hack, last]; rfl
  · simp [hack, notLast]; rfl
  · simp [hack, noTick]
  · simp [hack, tick, Nat.not_le.mpr below]; rfl
  · simp [hack, tick, limit]; exact State.raiseFail_start _ _ _ _ rfl rfl rfl

end Sys2Proof.Machine
end

section
/-! The inputs a cycle reads (42_flow_control.md R103). The host's part reads `hop` only, and each rule the inputs that
`relevantInputs` names for its state; the rest of the cycle's inputs is carried along until the end of the cycle. -/

namespace Sys2Proof.Machine

open Sys2Proof.Safety

/-- `s` with other inputs in the coming cycles. -/
def State.withInputs (s : State) (x : List CycleIn) : State := { s with inputs := x }

/-- The same, of the state an outcome leaves. -/
def outcomeWithInputs (o : Host.Outcome State Fault Refusal) (x : List CycleIn) : Host.Outcome State Fault Refusal :=
  andThen o fun t => .next (t.withInputs x)

section Commute

variable (s : State) (x : List CycleIn)

@[simp] theorem outcomeWithInputs_next : outcomeWithInputs (.next s) x = .next (s.withInputs x) := rfl

theorem State.raiseFail_withInputs (y : List CycleIn) (start : State) (code : FailCode) :
    (s.withInputs x).raiseFail (start.withInputs y) code = (s.raiseFail start code).withInputs x := by
  simp only [State.raiseFail_eq]; rfl

theorem State.beginSession_withInputs : (s.withInputs x).beginSession = s.beginSession.withInputs x := by
  simp only [State.beginSession, apply_ite (State.withInputs · x), ← State.raiseFail_withInputs _ x x]
  rfl

/-- Each command is a choice between writes that read no input, made on fields that are no input. -/
theorem runCommand_withInputs (k : Command) :
    runCommand k (s.withInputs x) = outcomeWithInputs (runCommand k s) x := by
  cases k with
  | nop =>
    simp only [runCommand, execNop, State.whenStable, outcomeWithInputs_next, apply_ite (State.withInputs · x)]; rfl
  | start =>
    simp only [runCommand, execStart, State.whenStable, outcomeWithInputs_next, apply_ite (State.withInputs · x),
      State.beginSession_withInputs]
    rfl
  | clear =>
    simp only [runCommand, execClear, State.whenStable, outcomeWithInputs_next, apply_ite (State.withInputs · x)]; rfl
  | encode arg =>
    simp only [runCommand, execEncode, State.whenStable, outcomeWithInputs_next, apply_ite (State.withInputs · x)]; rfl
  | cksum =>
    simp only [runCommand, execCksum, State.whenStable, outcomeWithInputs_next, apply_ite (State.withInputs · x)]; rfl

theorem execWr_withInputs (off : Byte) (d : Word) :
    execWr off d (s.withInputs x) = outcomeWithInputs (execWr off d s) x := by
  unfold execWr
  cases regAt off with
  | none => rfl
  | some q =>
    cases q with
    | cmd =>
      simp only [writeCmd]
      cases decodeCommand d with
      | none => rfl
      | some k => exact runCommand_withInputs s x k
    | payloadLen | ackTimeout | settleDelay =>
      simp only [State.writeLocked, outcomeWithInputs_next, apply_ite (State.withInputs · x)]; rfl
    | status | error | nchunk | timer | cksAddr | cksLen | cksResult | frameLen | intCtrl | txCount => rfl

/-- A host operation reads no input: it runs alike whatever the coming cycles hold. -/
theorem exec_withInputs (i : Instr) (hi : hostInstr i = true) :
    exec i (s.withInputs x) = outcomeWithInputs (exec i s) x := by
  cases i with
  | nop => exact runCommand_withInputs s x .nop
  | start => exact runCommand_withInputs s x .start
  | clear => exact runCommand_withInputs s x .clear
  | encode arg => exact runCommand_withInputs s x (.encode arg)
  | cksum => exact runCommand_withInputs s x .cksum
  | wr off d => exact execWr_withInputs s x off d
  | rd off | rdb a | rdf k => rfl
  | wrb a b => simp only [exec, execWrb, outcomeWithInputs_next, apply_ite (State.withInputs · x)]; rfl
  | data i n chunk => cases hi
  | reset1 | reset2 | finalize => cases hi

end Commute

variable (s : State) (c d : CycleIn) (rest : List CycleIn)

theorem State.withInputs_input : (s.withInputs (c :: rest)).input = c := rfl

theorem hostPart_withInputs (hop : c.hop = d.hop) :
    hostPart (s.withInputs (c :: rest)) = outcomeWithInputs (hostPart (s.withInputs (d :: rest))) (c :: rest) := by
  have sameFetch : (s.withInputs (c :: rest)).fetched = (s.withInputs (d :: rest)).fetched := by
    simp only [State.fetched, State.withInputs_input, hop]
  unfold hostPart
  rw [sameFetch]
  cases hf : (s.withInputs (d :: rest)).fetched with
  | none => rfl
  | some i => exact exec_withInputs (s.withInputs (d :: rest)).beginCycle (c :: rest) i (State.fetched_host _ i hf)

theorem endCycle_withInputs (hack : c.ackIn = d.ackIn) :
    (s.withInputs (c :: rest)).endCycle = (s.withInputs (d :: rest)).endCycle := by
  simp only [State.endCycle, State.withInputs_input, hack]
  rfl

@[simp] theorem relevantInputs_ackIn (st : SeqState) : (relevantInputs st c).ackIn = c.ackIn := by
  simp [relevantInputs, CycleIn.ackIn]

theorem issueData_withInputs (hack : c.ackIn = d.ackIn) (i : Byte) (n : BitVec 9) (chunk : Vector Byte 196) :
    (s.withInputs (c :: rest)).issueData i n chunk =
      ((s.withInputs (d :: rest)).issueData i n chunk).withInputs (c :: rest) := by
  simp only [State.issueData, State.withInputs_input, hack]
  rfl

theorem relevantInputs_txDone (st : SeqState) (h : outstandingTx st = true) : (relevantInputs st c).txDone = c.txDone :=
  if_pos h

/-- R103, rule by rule: an input that `relevantInputs` puts at rest is read by no rule of the state. -/
theorem sequencerRule_relevantInputs (st : SeqState) :
    sequencerRule st (s.withInputs (c :: rest)) =
      outcomeWithInputs (sequencerRule st (s.withInputs (relevantInputs st c :: rest))) (c :: rest) := by
  have fails (t start : State) (code : FailCode) : (t.raiseFail start code).withInputs (c :: rest) =
      (t.withInputs (c :: rest)).raiseFail (start.withInputs (c :: rest)) code := (t.raiseFail_withInputs ..).symm
  cases st with
  | idle | connected | completed | failed => rfl
  | connecting =>
    have read : (relevantInputs .connecting c).connRsp = c.connRsp := rfl
    simp only [sequencerRule, ruleConnecting_eq, State.withInputs_input, read]
    cases c.connRsp with
    | ok | none => rfl
    | err => rw [outcomeWithInputs_next, fails]; rfl
  | subscribing =>
    simp only [sequencerRule, ruleSubscribing_eq, outcomeWithInputs_next, apply_ite (State.withInputs · (c :: rest)),
      fails]
    rfl
  | resetWr1 | resetWr2 | xferWr | finWr1 | finWr2 =>
    simp (disch := decide) only [sequencerRule, ruleResetWr1_eq, ruleResetWr2_eq, ruleXferWr_eq, ruleFinWr1_eq,
      ruleFinWr2_eq, State.withInputs_input, relevantInputs_txDone]
    cases c.txDone with
    | ok | none => rfl
    | err => rw [outcomeWithInputs_next, fails]; rfl
  | resetSettle =>
    simp only [sequencerRule, ruleResetSettle_eq, outcomeWithInputs_next, apply_ite (State.withInputs · (c :: rest))]
    rfl
  | xferSend =>
    simp only [sequencerRule, ruleXferSend_eq, outcomeWithInputs_next, apply_ite (State.withInputs · (c :: rest)),
      fails]
    rw [issueData_withInputs s c _ rest (relevantInputs_ackIn c .xferSend).symm]
    rfl
  | xferWait =>
    have sameAck : (s.withInputs (relevantInputs .xferWait c :: rest)).input.ackIn =
        (s.withInputs (c :: rest)).input.ackIn := relevantInputs_ackIn c .xferWait
    simp only [sequencerRule, ruleXferWait_eq, outcomeWithInputs_next, apply_ite (State.withInputs · (c :: rest)),
      fails]
    rw [sameAck]
    rfl

/-- Settles O47: the host's part reads `hop` only, the rule of the STATE the inputs that count in it, and the end of the
cycle whether there is a notification. -/
theorem unreadInputsHaveNoEffect : Obligations.UnreadInputsHaveNoEffect := by
  unfold Obligations.UnreadInputsHaveNoEffect
  intro s c rest
  change step (s.withInputs (c :: rest)) = step (s.withInputs (relevantInputs s.st c :: rest))
  cases hr : c.rst with
  | true =>
    have reset (e : CycleIn) (he : e.rst = true) :
        step (s.withInputs (e :: rest)) = .next (s.withInputs (e :: rest)).resetCycle := if_pos he
    exact (reset c hr).trans (reset (relevantInputs s.st c) hr).symm
  | false =>
    let d := relevantInputs s.st c
    obtain ⟨u, hu⟩ := hostPart_next (s.withInputs (d :: rest))
    obtain ⟨v, hv⟩ := sequencerRule_next (u.withInputs (d :: rest)) s.st
    have host (e : CycleIn) (he : e.hop = c.hop) :
        hostPart (s.withInputs (e :: rest)) = .next (u.withInputs (e :: rest)) := by
      rw [hostPart_withInputs s e d rest he, hu]; rfl
    have rule : sequencerRule s.st (u.withInputs (c :: rest)) = .next (v.withInputs (c :: rest)) := by
      rw [sequencerRule_relevantInputs, hv]; rfl
    have carried : v = v.withInputs (d :: rest) := by
      have inputs : v.inputs = d :: rest := sequencerRule_inputs hv
      rw [State.withInputs, ← inputs]
    calc step (s.withInputs (c :: rest)) = .next (v.withInputs (c :: rest)).endCycle :=
          step_of_parts _ _ _ hr (host c rfl) rule
      _ = .next (v.withInputs (d :: rest)).endCycle := by
          rw [endCycle_withInputs v c d rest (relevantInputs_ackIn c s.st).symm]
      _ = step (s.withInputs (d :: rest)) := by
          rw [← carried]; exact (step_of_parts (s.withInputs (d :: rest)) _ _ hr (host d rfl) hv).symm

end Sys2Proof.Machine
end

section
/-! Failure code 7 (42_flow_control.md R106): XFER_SEND alone raises it, and only out of range. -/

namespace Sys2Proof.Machine

open Sys2Proof.Safety

variable {s u v : State} {st : SeqState}

theorem sequencerRule_err_ne_index (hsend : st = .xferSend → inRange s.idx s.nchunk = true)
    (herr : s.err ≠ .indexOutOfRange) (hv : sequencerRule st s = .next v) : v.err ≠ .indexOutOfRange := by
  cases st with
  | idle | connected | completed | failed => cases hv; exact herr
  | connecting => rw [sequencerRule, ruleConnecting_eq] at hv; cases hv; split <;> simp [herr]
  | subscribing => rw [sequencerRule, ruleSubscribing_eq] at hv; cases hv; split_ifs <;> simp [herr]
  | resetWr1 => rw [sequencerRule, ruleResetWr1_eq] at hv; cases hv; split <;> simp [herr]
  | resetSettle => rw [sequencerRule, ruleResetSettle_eq] at hv; cases hv; split_ifs <;> simp [herr]
  | resetWr2 => rw [sequencerRule, ruleResetWr2_eq] at hv; cases hv; split <;> simp [herr]
  | xferSend => rw [sequencerRule, ruleXferSend_eq, if_pos (hsend rfl)] at hv; cases hv; exact herr
  | xferWr => rw [sequencerRule, ruleXferWr_eq] at hv; cases hv; split <;> simp [herr]
  | xferWait => rw [sequencerRule, ruleXferWait_eq] at hv; cases hv; split_ifs <;> simp [herr]
  | finWr1 => rw [sequencerRule, ruleFinWr1_eq] at hv; cases hv; split <;> simp [herr]
  | finWr2 => rw [sequencerRule, ruleFinWr2_eq] at hv; cases hv; split <;> simp [herr]

/-- START raises only the codes of the size check, CLEAR none. -/
theorem hostPart_err_ne_index (herr : s.err ≠ .indexOutOfRange) (hu : hostPart s = .next u) :
    u.err ≠ .indexOutOfRange := by
  cases hb : s.busy with
  | true =>
    obtain ⟨c, a, l, e, r, rfl⟩ := hostPart_busy s u hb hu
    exact herr
  | false =>
    obtain ⟨c, len, ta, sd, a, l, e, m, r, rfl, -⟩ | ⟨arg, -, rfl⟩ | ⟨q, rfl⟩ | ⟨-, -, rfl⟩ | ⟨-, rfl⟩ :=
      hostPart_stable s u hb hu
    · exact herr
    · exact herr
    · exact herr
    · obtain ⟨-, h⟩ | ⟨-, -, h⟩ | ⟨-, -, h⟩ := s.beginCycle.beginSession_cases <;> simp [h]
    · exact nofun

/-- Settles O53: the session invariant keeps IDX in range in XFER_SEND, after the host's part too. -/
theorem indexOutOfRangeIsNeverRaised : Obligations.IndexOutOfRangeIsNeverRaised := by
  unfold Obligations.IndexOutOfRangeIsNeverRaised
  intro s t h herr hstep
  obtain ⟨-, rfl⟩ | ⟨-, u, v, hu, hv, rfl⟩ := step_cases s t hstep
  · exact nofun
  · rw [State.endCycle_err]
    refine sequencerRule_err_ne_index (fun hst => ?_) (hostPart_err_ne_index herr hu) hv
    have still : u.st = .xferSend := (hostPart_st_of_busy (State.busy_of_st hst rfl) hu).trans hst
    exact (LiveInv.ofSession (hostPart_sessionInv h hu) still nofun).xferSend_inRange

end Sys2Proof.Machine
end

section
/-! The wait for an acknowledgment (42_flow_control.md R108): XFER_WAIT counts the ticks of the cycles in which nothing
is notified, whatever the host does in them. -/

namespace Sys2Proof.Machine

open Sys2Proof.Safety

variable {s : State}

/-- `t` still waits for the acknowledgment that `s` waits for, one cycle later and with `k` ticks more. -/
structure StillWaiting (s : State) (k : Nat) (t : State) : Prop where
  st : t.st = .xferWait
  ackLatch : t.ackLatch = false
  timer : t.timer.toNat = s.timer.toNat + k
  ackTimeout : t.ackTimeout = s.ackTimeout
  idx : t.idx = s.idx
  txCount : t.txCount = s.txCount
  inputs : t.inputs = s.inputs.tail
  txReq : t.out.txReq = none

/-- A silent cycle in XFER_WAIT with nothing latched acknowledges nothing. -/
theorem not_acked_of_silent (hlatch : s.ackLatch = false) (hs : silent s.input = true) :
    s.input.rst = false ∧ (s.ackLatch || s.input.ntf0 || s.input.ntf1) = false := by
  simp only [silent, CycleIn.ackIn, Bool.and_eq_true, Bool.not_eq_true', Bool.or_eq_false_iff] at hs
  simp [hs, hlatch]

/-- A silent cycle whose tick, if it holds one, does not reach the limit. -/
theorem step_wait (hst : s.st = .xferWait) (hlatch : s.ackLatch = false) (hs : silent s.input = true)
    (below : s.input.tick = true → s.timer.toNat + 1 < s.ackTimeout.toNat) :
    ∃ t, step s = .next t ∧ StillWaiting s (if s.input.tick then 1 else 0) t := by
  obtain ⟨hr, noAck⟩ := not_acked_of_silent hlatch hs
  obtain ⟨u, hu⟩ := hostPart_next s
  obtain ⟨-, -, onNone, onTick, -⟩ := xferWaitTakesAckThenTick s u hst hr hu
  obtain ⟨c, a, l, e, r, rfl⟩ := hostPart_busy s u (State.busy_of_st hst rfl) hu
  cases htick : s.input.tick with
  | false =>
    exact ⟨_, onNone noAck htick, hst,
      (endCycle_ackLatch_default rfl rfl rfl).trans noAck, rfl, rfl, rfl, rfl, rfl, rfl⟩
  | true =>
    have noWrap : (s.timer + 1).toNat = s.timer.toNat + 1 := by
      have := below htick
      exact BitVec.toNat_add_of_lt (by simp; omega)
    exact ⟨_, onTick noAck htick (below htick), hst,
      (endCycle_ackLatch_default rfl rfl rfl).trans noAck, noWrap, rfl, rfl, rfl, rfl, rfl⟩

/-- The silent tick that reaches the limit. -/
theorem step_timeout (hst : s.st = .xferWait) (hlatch : s.ackLatch = false) (hs : silent s.input = true)
    (htick : s.input.tick = true) (limit : s.ackTimeout.toNat ≤ s.timer.toNat + 1) :
    ∃ t, step s = .next t ∧ t.st = .failed ∧ t.err = .ackTimeout ∧ t.failState = .xferWait ∧ t.failIdx = s.idx ∧
      t.txCount = s.txCount ∧ t.inputs = s.inputs.tail ∧ t.out.txReq = none := by
  obtain ⟨hr, noAck⟩ := not_acked_of_silent hlatch hs
  obtain ⟨u, hu⟩ := hostPart_next s
  obtain ⟨-, -, -, -, onLimit⟩ := xferWaitTakesAckThenTick s u hst hr hu
  refine ⟨_, onLimit noAck htick limit, ?_⟩
  obtain ⟨c, a, l, e, r, rfl⟩ := hostPart_busy s u (State.busy_of_st hst rfl) hu
  simp [hst]

/-- R108 from any count of ticks on. -/
theorem ackTimeout_of_silent (quiet rest : List CycleIn) (last : CycleIn) (hst : s.st = .xferWait)
    (hlatch : s.ackLatch = false) (hin : s.inputs = quiet ++ last :: rest) (hquiet : ∀ c ∈ quiet, silent c = true)
    (hlast : silent last = true) (htick : last.tick = true)
    (hticks : s.timer.toNat + tickCount quiet + 1 = max s.ackTimeout.toNat 1) :
    (∀ j, j ≤ quiet.length → ∃ u, Sys2Proof.core.run j s = .next u ∧ u.st = .xferWait) ∧
      ∃ t, Sys2Proof.core.run (quiet.length + 1) s = .next t ∧ t.st = .failed ∧ t.err = .ackTimeout ∧
        t.failState = .xferWait ∧ t.failIdx = s.idx ∧ t.txCount = s.txCount ∧ t.inputs = rest ∧
        framesSent (quiet.length + 1) s = [] := by
  induction quiet generalizing s with
  | nil =>
    have input : s.input = last := congrArg (·.headD {}) hin
    obtain ⟨t, hstep, hfailed, herr, hfs, hidx, htx, hrest, hreq⟩ :=
      step_timeout hst hlatch (input ▸ hlast) (input ▸ htick) (by simp [tickCount] at hticks; omega)
    refine ⟨fun j hj => ?_, t, run_succ s t 0 hstep, hfailed, herr, hfs, hidx, htx, ?_, ?_⟩
    · obtain rfl : j = 0 := Nat.le_zero.mp hj
      exact ⟨s, rfl, hst⟩
    · rw [hrest, hin]; rfl
    · rw [framesSent_succ s t _ hstep, hreq]; rfl
  | cons c quiet ih =>
    have input : s.input = c := congrArg (·.headD {}) hin
    simp only [tickCount] at hticks
    obtain ⟨t, hstep, h⟩ := step_wait hst hlatch (input ▸ hquiet c (by simp))
      (fun tick => by rw [input] at tick; simp only [tick, if_true] at hticks; omega)
    have later := ih h.st h.ackLatch (by rw [h.inputs, hin]; rfl) (fun d hd => hquiet d (by simp [hd]))
      (by rw [h.timer, h.ackTimeout, input]; omega)
    obtain ⟨waits, t', hrun, hfailed, herr, hfs, hidx, htx, hrest, hframes⟩ := later
    refine ⟨fun j hj => ?_, t', ?_, hfailed, herr, hfs, hidx.trans h.idx, htx.trans h.txCount, hrest, ?_⟩
    · cases j with
      | zero => exact ⟨s, rfl, hst⟩
      | succ j =>
        rw [run_succ s t j hstep]
        exact waits j (by simpa using hj)
    · rw [List.length_cons, run_succ s t _ hstep, hrun]
    · rw [List.length_cons, framesSent_succ s t _ hstep, h.txReq, hframes]; rfl

/-- Settles O59: the count of ticks starts at 0 when the write is done (R99). -/
theorem ackTimeoutOnExactlyTheLimitTick : Obligations.AckTimeoutOnExactlyTheLimitTick := by
  unfold Obligations.AckTimeoutOnExactlyTheLimitTick
  intro s quiet rest last hst htimer hlatch hin hquiet hlast htick hticks
  exact ackTimeout_of_silent quiet rest last hst hlatch hin hquiet hlast htick (by simpa [htimer] using hticks)

end Sys2Proof.Machine
end

section
/-! The shortest session (70_reset_and_hazards.md R107, R142, R143): a run is cut into phases, each of which says how
many cycles it takes, which frames it sends, and in which state of the session it ends. -/

namespace Sys2Proof.Machine

open Sys2Proof.Safety

/-! ### Runs of a session under way -/

/-- `n` cycles lead from `s` to `t` and send the frames `fs`, each of them a cycle of a session under way: it holds neither
a reset nor a host operation, and does not start in COMPLETED or FAILED. -/
inductive SessionRun : Nat → State → List TxReq → State → Prop where
  | nil (s : State) : SessionRun 0 s [] s
  | cycle {n : Nat} {s t u : State} {fs : List TxReq} (hstep : step s = .next t) (hr : s.input.rst = false)
      (hop : s.input.hop = .none) (underWay : ended s = false) (tail : SessionRun n t fs u) :
      SessionRun (n + 1) s (t.out.txReq.toList ++ fs) u

variable {m n : Nat} {s t u v s0 : State} {fs gs : List TxReq} {st st' : SeqState} {i j : Nat} {c : CycleIn}
  {rest : List CycleIn}

theorem SessionRun.append (h : SessionRun m s fs t) (h' : SessionRun n t gs u) : SessionRun (m + n) s (fs ++ gs) u := by
  induction h with
  | nil s => simpa using h'
  | cycle hstep hr hop underWay _ ih =>
    rw [Nat.add_right_comm, List.append_assoc]
    exact .cycle hstep hr hop underWay (ih h')

theorem SessionRun.run (h : SessionRun n s fs t) : Sys2Proof.core.run n s = .next t := by
  induction h with
  | nil s => rfl
  | cycle hstep _ _ _ _ ih => rw [run_succ _ _ _ hstep, ih]

theorem SessionRun.framesSent (h : SessionRun n s fs t) : framesSent n s = fs := by
  induction h with
  | nil s => rfl
  | cycle hstep _ _ _ _ ih => rw [framesSent_succ _ _ _ hstep, ih]

/-- R143: the run ends with the session. -/
theorem SessionRun.runEndFrom_pending (h : SessionRun n s fs t) (he : ended t = true) (k : Nat) :
    runEndFrom n k .pending s = some ⟨k + n, t⟩ := by
  induction h generalizing k with
  | nil s => simp [runEndFrom, LastStart.atCycle_pending, he, LastStart.runEnd]
  | @cycle n s t u fs hstep hr hop underWay _ ih =>
    have noStart : s.fetched ≠ some .start := by simp [State.fetched, hop, decodeBus]
    rw [runEndFrom_succ _ _ _ _ _ hstep, LastStart.atCycle_pending, underWay, if_neg (by simp),
      LastStart.afterCycle_of_other _ _ hr noStart, ih he, Nat.add_assoc, Nat.add_comm 1]

/-! ### Where a session stands -/

theorem PayloadKept.trans (h : PayloadKept s t) (h' : PayloadKept t u) : PayloadKept s u :=
  ⟨h'.pb.trans h.pb, h'.epoch.trans h.epoch, h'.payloadLen.trans h.payloadLen, h'.ackTimeout.trans h.ackTimeout,
    h'.settleDelay.trans h.settleDelay⟩

/-- In `s`, the session over the payload of `s0` is in state `st` with IDX = `i`, and the inputs `rest` are to come. -/
structure SessionAt (s0 : State) (st : SeqState) (i : Nat) (rest : List CycleIn) (s : State) : Prop where
  live : LiveInv st s
  idx : s.idx.toNat = i
  inputs : s.inputs = rest
  payload : PayloadKept s0 s
  params : s.params = s0.params

theorem SessionAt.input (h : SessionAt s0 st i (c :: rest) s) : s.input = c := by
  rw [State.input, h.inputs]; rfl

theorem ended_of_busy (hst : s.st = st) (busy : st.stable = false) : ended s = false := by
  subst hst
  cases h : s.st <;> simp [h, SeqState.stable] at busy <;> simp [ended, h]

/-- One cycle of a session without a host operation is the rule of its state. -/
theorem SessionAt.cycle (h : SessionAt s0 st i (c :: rest) s) (busy : st.stable = false) (hr : c.rst = false)
    (hop : c.hop = .none) (hv : sequencerRule st s.beginCycle = .next v) (hst : v.st = st') (notFailed : st' ≠ .failed)
    (hidx : v.idx.toNat = j) :
    SessionRun 1 s v.out.txReq.toList v.endCycle ∧ SessionAt s0 st' j rest v.endCycle := by
  have hr' : s.input.rst = false := by rw [h.input, hr]
  have hop' : s.input.hop = .none := by rw [h.input, hop]
  have hstep : step s = .next v.endCycle :=
    step_of_parts s s.beginCycle v hr' (hostPart_of_no_operation hop') (by rw [h.live.inState]; exact hv)
  obtain ⟨hpb, hepoch, hlen, hack, hsettle⟩ := sequencerRule_payloadKept hv
  constructor
  · simpa using SessionRun.cycle hstep hr' hop' (ended_of_busy h.live.inState busy) (.nil _)
  · exact
      { live := LiveInv.ofSession (stepKeepsSessionInvariant s _ h.live.toSession hstep) hst notFailed
        idx := hidx
        inputs := by rw [State.endCycle_inputs, sequencerRule_inputs hv, State.beginCycle_inputs, h.inputs]; rfl
        payload := h.payload.trans ⟨hpb, hepoch, hlen, hack, hsettle⟩
        params := (parametersNeverChange s _ hstep).trans h.params }

/-! ### The frames -/

/-- The `tx_req` of a control frame (R71). -/
def controlFrame (p : Params) (kind : FrameKind) (bytes : List Byte) : TxReq :=
  ⟨kind, p.writeHandle, bytes, p.writeRespCtrl⟩

/-- The `tx_req` of packet `i` over the payload of `s` (R61, R98). -/
def packetFrame (s : State) (i : Nat) : TxReq :=
  ⟨.data, s.params.writeHandle, dataFrame s.params (BitVec.ofNat 8 i) s.nchunk (s.chunk i), s.params.writeRespData⟩

theorem sessionFrames_eq (s : State) :
    sessionFrames s =
      [controlFrame s.params .reset1 s.params.reset1, controlFrame s.params .reset2 s.params.reset2] ++
        (List.range s.nchunk.toNat).map (packetFrame s) ++
        [controlFrame s.params .finalize s.params.finalize, controlFrame s.params .finalize s.params.finalize] := rfl

/-! ### The phases -/

/-- SUBSCRIBING with both answers in one cycle (R93). -/
theorem SessionAt.subscribe (h : SessionAt s0 .subscribing i ({ subRsp0 := .ok, subRsp1 := .ok } :: rest) s) :
    ∃ t, SessionRun 1 s [] t ∧ SessionAt s0 .connected i rest t := by
  have noFail : s.beginCycle.subFails = false := by simp [State.subFails, h.input]
  have both : s.beginCycle.subOkNext = 0b11#2 := by simp [subOkNext_eq, h.input]
  have rule := ruleSubscribing_eq s.beginCycle
  rw [noFail, if_neg (by simp), if_pos both] at rule
  exact ⟨_, h.cycle rfl rfl rfl rule rfl nofun h.idx⟩

/-- CONNECTED (R94). -/
theorem SessionAt.reset1 (h : SessionAt s0 .connected i ({} :: rest) s) :
    ∃ t, SessionRun 1 s [controlFrame s0.params .reset1 s0.params.reset1] t ∧ SessionAt s0 .resetWr1 i rest t := by
  rw [← h.params]
  exact ⟨_, h.cycle rfl rfl rfl (ruleConnected_eq _) rfl nofun h.idx⟩

/-- RESET_WR1 with its answer (R95). -/
theorem SessionAt.reset1Done (h : SessionAt s0 .resetWr1 i ({ txDone := .ok } :: rest) s) :
    ∃ t, SessionRun 1 s [] t ∧ SessionAt s0 .resetSettle i rest t ∧ t.timer = 0 := by
  have rule := ruleResetWr1_eq s.beginCycle
  simp only [State.beginCycle_input, h.input] at rule
  obtain ⟨hrun, hat⟩ := h.cycle (st' := .resetSettle) rfl rfl rfl rule rfl nofun h.idx
  exact ⟨_, hrun, hat, rfl⟩

/-- RESET_SETTLE, with a tick in every cycle up to the one that reaches the limit (R96). -/
theorem SessionAt.settle (k : Nat) (h : SessionAt s0 .resetSettle i (List.replicate (k + 1) { tick := true } ++ rest) s)
    (hk : s.timer.toNat + (k + 1) = max s0.settleDelay.toNat 1) :
    ∃ t, SessionRun (k + 1) s [controlFrame s0.params .reset2 s0.params.reset2] t ∧
      SessionAt s0 .resetWr2 i rest t := by
  induction k generalizing s with
  | zero =>
    have tick : s.beginCycle.input.tick = true := by rw [State.beginCycle_input, h.input]
    have limit : s.beginCycle.settleDelay.toNat ≤ s.beginCycle.timer.toNat + 1 := by
      rw [State.beginCycle_settleDelay, State.beginCycle_timer, h.payload.settleDelay]; omega
    have rule := ruleResetSettle_eq s.beginCycle
    rw [if_pos tick, if_pos limit] at rule
    rw [← h.params]
    exact ⟨_, h.cycle rfl rfl rfl rule rfl nofun h.idx⟩
  | succ k ih =>
    have tick : s.beginCycle.input.tick = true := by rw [State.beginCycle_input, h.input]
    have below : ¬s.beginCycle.settleDelay.toNat ≤ s.beginCycle.timer.toNat + 1 := by
      rw [State.beginCycle_settleDelay, State.beginCycle_timer, h.payload.settleDelay]; omega
    have rule := ruleResetSettle_eq s.beginCycle
    rw [if_pos tick, if_neg below] at rule
    obtain ⟨hrun, hat⟩ := h.cycle rfl rfl rfl rule h.live.inState nofun h.idx
    have counted : (s.timer + 1).toNat = s.timer.toNat + 1 := by
      have := s0.settleDelay.isLt
      exact BitVec.toNat_add_of_lt (by simp; omega)
    obtain ⟨t, hrun', hat'⟩ := ih hat (by
      change (s.timer + 1).toNat + (k + 1) = _
      omega)
    exact ⟨t, Nat.add_comm 1 (k + 1) ▸ hrun.append hrun', hat'⟩

/-- RESET_WR2 with its answer (R97). -/
theorem SessionAt.reset2Done (h : SessionAt s0 .resetWr2 i ({ txDone := .ok } :: rest) s) :
    ∃ t, SessionRun 1 s [] t ∧ SessionAt s0 .xferSend 0 rest t := by
  have rule := ruleResetWr2_eq s.beginCycle
  simp only [State.beginCycle_input, h.input] at rule
  exact ⟨_, h.cycle rfl rfl rfl rule rfl nofun rfl⟩

/-- XFER_SEND (R98). -/
theorem SessionAt.send (h : SessionAt s0 .xferSend i ({} :: rest) s) :
    ∃ t, SessionRun 1 s [packetFrame s0 i] t ∧ SessionAt s0 .xferWr i rest t := by
  have rule := ruleXferSend_eq s.beginCycle
  rw [if_pos (by exact h.live.xferSend_inRange)] at rule
  have frame : packetFrame s0 i =
      { kind := .data
        handle := s.params.writeHandle
        bytes := dataFrame s.params s.idx s.nchunk (s.chunk s.idx.toNat)
        expectResponse := s.params.writeRespData } := by
    rw [packetFrame, h.params, h.payload.nchunk, h.payload.chunk, ← h.idx, BitVec.ofNat_toNat, BitVec.setWidth_eq]
  rw [frame]
  exact ⟨_, h.cycle rfl rfl rfl rule rfl nofun h.idx⟩

/-- XFER_WR with its answer and the acknowledgment in one cycle: the latch holds it (R88, R99). -/
theorem SessionAt.sendDone (h : SessionAt s0 .xferWr i ({ txDone := .ok, ntf1 := true } :: rest) s) :
    ∃ t, SessionRun 1 s [] t ∧ SessionAt s0 .xferWait i rest t ∧ t.ackLatch = true := by
  have rule := ruleXferWr_eq s.beginCycle
  simp only [State.beginCycle_input, h.input] at rule
  obtain ⟨hrun, hat⟩ := h.cycle (st' := .xferWait) rfl rfl rfl rule rfl nofun h.idx
  refine ⟨_, hrun, hat, ?_⟩
  change (s.ackLatch || s.input.ackIn) = true
  simp [h.input, CycleIn.ackIn]

/-- XFER_WAIT with the acknowledgment latched, not at the last packet (R100). -/
theorem SessionAt.acked (h : SessionAt s0 .xferWait i ({} :: rest) s) (hack : s.ackLatch = true)
    (hi : i + 1 ≠ s0.nchunk.toNat) :
    ∃ t, SessionRun 1 s [] t ∧ SessionAt s0 .xferSend (i + 1) rest t := by
  have rule := ruleXferWait_eq s.beginCycle
  rw [if_pos (by simp [hack]), if_neg (by simpa [h.idx, h.payload.nchunk] using hi)] at rule
  refine ⟨_, h.cycle rfl rfl rfl rule rfl nofun ?_⟩
  have hle := h.live.idx_le
  rw [h.idx] at hle
  change (s.idx + 1).toNat = _
  rw [BitVec.toNat_add_of_lt (by simp [h.idx]; omega), h.idx]; rfl

/-- XFER_WAIT with the acknowledgment latched, at the last packet (R100). -/
theorem SessionAt.ackedLast (h : SessionAt s0 .xferWait i ({} :: rest) s) (hack : s.ackLatch = true)
    (hi : i + 1 = s0.nchunk.toNat) :
    ∃ t, SessionRun 1 s [controlFrame s0.params .finalize s0.params.finalize] t ∧ SessionAt s0 .finWr1 i rest t := by
  have rule := ruleXferWait_eq s.beginCycle
  rw [if_pos (by simp [hack]), if_pos (by simpa [h.idx, h.payload.nchunk] using hi)] at rule
  rw [← h.params]
  exact ⟨_, h.cycle rfl rfl rfl rule rfl nofun h.idx⟩

/-- FIN_WR1 with its answer (R101). -/
theorem SessionAt.finalize1Done (h : SessionAt s0 .finWr1 i ({ txDone := .ok } :: rest) s) :
    ∃ t, SessionRun 1 s [controlFrame s0.params .finalize s0.params.finalize] t ∧ SessionAt s0 .finWr2 i rest t := by
  have rule := ruleFinWr1_eq s.beginCycle
  simp only [State.beginCycle_input, h.input] at rule
  rw [← h.params]
  exact ⟨_, h.cycle rfl rfl rfl rule rfl nofun h.idx⟩

/-- FIN_WR2 with its answer (R102). -/
theorem SessionAt.finalize2Done (h : SessionAt s0 .finWr2 i ({ txDone := .ok } :: rest) s) :
    ∃ t, SessionRun 1 s [] t ∧ SessionAt s0 .completed i rest t := by
  have rule := ruleFinWr2_eq s.beginCycle
  simp only [State.beginCycle_input, h.input] at rule
  exact ⟨_, h.cycle rfl rfl rfl rule rfl nofun h.idx⟩

/-! ### The whole session -/

/-- What a START that is not refused leaves of `s` (R89). -/
def State.started (s : State) : State :=
  ((s.beginCycle.setCmdErr .ok).zeroSession.emitConnect.moveTo .connecting).endCycle

theorem step_start (hs : s.st = .idle) (hin : s.input = { hop := .wr 0x00#8 Command.start.word })
    (hpos : 1 ≤ s.payloadLen.toNat) (hN : s.nchunk.toNat ≤ 255) : step s = .next s.started := by
  have host := hostPart_start s hs (by rw [hin]; rfl)
  obtain ⟨hL, -⟩ | ⟨-, hlarge, -⟩ | ⟨-, -, hbegin⟩ := s.beginCycle.beginSession_cases
  · exact absurd hL (Nat.one_le_iff_ne_zero.mp hpos)
  · exact absurd hN (Nat.not_le.mpr hlarge)
  · rw [hbegin] at host
    exact step_of_parts s _ _ (by rw [hin]) host (by rw [hs]; rfl)

/-- CONNECTING with its answer (R92): whatever CONN_UP was before START, the session invariant holds from here on. -/
theorem sessionAt_of_started (hpos : 1 ≤ s.payloadLen.toNat) (hN : s.nchunk.toNat ≤ 255)
    (hin : s.inputs.tail = { connRsp := .ok } :: rest) :
    ∃ t, SessionRun 1 s.started [] t ∧ SessionAt s .subscribing 0 rest t := by
  have input : s.started.input = { connRsp := .ok } := by rw [State.input]; exact congrArg (·.headD {}) hin
  have rule := ruleConnecting_eq s.started.beginCycle
  simp only [State.beginCycle_input, input] at rule
  have hr : s.started.input.rst = false := by rw [input]
  have hop : s.started.input.hop = .none := by rw [input]
  have hstep := step_of_parts s.started _ _ hr (hostPart_of_no_operation hop) rule
  have chunks : 1 ≤ s.nchunk.toNat := by
    have := s.nchunk_toNat
    omega
  refine ⟨_, .cycle hstep hr hop rfl (.nil _), ?_⟩
  exact
    { live := ⟨rfl, nofun, rfl, rfl, fun _ => ⟨chunks, hN⟩, rfl, (by decide : 0b00#2 ≠ 0b11#2), trivial, rfl⟩
      idx := rfl
      inputs := congrArg List.tail hin
      payload := ⟨rfl, rfl, rfl, rfl, rfl⟩
      params := rfl }

/-- The packets from `i` on, each sent, answered and acknowledged in three cycles, and the first finalize frame. -/
theorem SessionAt.packets (k : Nat)
    (h : SessionAt s0 .xferSend i
      ((List.replicate (k + 1) [({} : CycleIn), { txDone := .ok, ntf1 := true }, {}]).flatten ++ rest) s)
    (hk : i + (k + 1) = s0.nchunk.toNat) :
    ∃ t, SessionRun (3 * (k + 1)) s
        ((List.range' i (k + 1)).map (packetFrame s0) ++ [controlFrame s0.params .finalize s0.params.finalize]) t ∧
      SessionAt s0 .finWr1 (i + k) rest t := by
  induction k generalizing s i with
  | zero =>
    obtain ⟨s1, run1, at1⟩ := h.send
    obtain ⟨s2, run2, at2, acked⟩ := at1.sendDone
    obtain ⟨s3, run3, at3⟩ := at2.ackedLast acked hk
    exact ⟨s3, run1.append (run2.append run3), at3⟩
  | succ k ih =>
    obtain ⟨s1, run1, at1⟩ := h.send
    obtain ⟨s2, run2, at2, acked⟩ := at1.sendDone
    obtain ⟨s3, run3, at3⟩ := at2.acked acked (by omega)
    obtain ⟨s4, run4, at4⟩ := ih at3 (by omega)
    have run := run1.append (run2.append (run3.append run4))
    have cycles : 3 * (k + 1 + 1) = 1 + (1 + (1 + 3 * (k + 1))) := by omega
    rw [Nat.add_right_comm] at at4
    exact ⟨s4, cycles ▸ run, at4⟩

/-- From SUBSCRIBING to COMPLETED: `d` + 1 ticks of settling and `k` + 1 packets. -/
theorem SessionAt.toCompleted (d k : Nat)
    (h : SessionAt s0 .subscribing 0
      ({ subRsp0 := .ok, subRsp1 := .ok } :: {} :: { txDone := .ok } :: (List.replicate (d + 1) { tick := true } ++
        ({ txDone := .ok } :: ((List.replicate (k + 1) [({} : CycleIn), { txDone := .ok, ntf1 := true }, {}]).flatten ++
          ({ txDone := .ok } :: { txDone := .ok } :: rest))))) s)
    (hd : d + 1 = max s0.settleDelay.toNat 1) (hk : k + 1 = s0.nchunk.toNat) :
    ∃ t, SessionRun (6 + (d + 1) + 3 * (k + 1)) s (sessionFrames s0) t ∧ SessionAt s0 .completed k rest t := by
  obtain ⟨s1, run1, at1⟩ := h.subscribe
  obtain ⟨s2, run2, at2⟩ := at1.reset1
  obtain ⟨s3, run3, at3, timer⟩ := at2.reset1Done
  obtain ⟨s4, run4, at4⟩ := at3.settle d (by simpa [timer] using hd)
  obtain ⟨s5, run5, at5⟩ := at4.reset2Done
  obtain ⟨s6, run6, at6⟩ := at5.packets k (by omega)
  obtain ⟨s7, run7, at7⟩ := at6.finalize1Done
  obtain ⟨s8, run8, at8⟩ := at7.finalize2Done
  have run := run1.append <| run2.append <| run3.append <| run4.append <| run5.append <| run6.append <| run7.append run8
  refine ⟨s8, ?_, by rwa [Nat.zero_add] at at8⟩
  convert run using 1
  · omega
  · rw [sessionFrames_eq, ← hk, List.range_eq_range']
    simp

/-- A session that START opens: one cycle more, no frame more, and the run ends with it (R143). -/
theorem runEnd_of_start (hs : s.st = .idle) (hr : s.input.rst = false) (hf : s.fetched = some .start)
    (hstep : step s = .next t) (h : SessionRun n t fs u) (he : ended u = true) :
    endCycleOf (n + 1) s = some (n + 1) := by
  rw [endCycleOf, runEnd, runEndFrom_succ s t n 0 _ hstep, LastStart.atCycle_noEnd,
    LastStart.afterCycle_of_start s _ hr hf, if_pos hs, h.runEndFrom_pending he, Option.map_some]
  simp [Nat.add_comm]

/-- Settles O60: the phases one after another; the session invariant gives ERR, CONN_UP and TX_COUNT in COMPLETED. -/
theorem fastSessionUploadsThePayload : Obligations.FastSessionUploadsThePayload := by
  unfold Obligations.FastSessionUploadsThePayload
  intro s rest L N K hs hpos hmax hin
  have count : s.nchunk.toNat = N := s.nchunk_toNat
  obtain ⟨d, hd⟩ : ∃ d, d + 1 = max s.settleDelay.toNat 1 := ⟨max s.settleDelay.toNat 1 - 1, by omega⟩
  obtain ⟨k, hk⟩ : ∃ k, k + 1 = N := ⟨N - 1, by omega⟩
  rw [fastSession, ← hd, ← hk] at hin
  simp only [List.append_assoc, List.cons_append, List.nil_append] at hin
  have input : s.input = { hop := .wr 0x00#8 Command.start.word } := by rw [State.input, hin]; rfl
  have fits : s.nchunk.toNat ≤ 255 := by omega
  have hstep := step_start hs input hpos fits
  obtain ⟨u, run1, at1⟩ := sessionAt_of_started hpos fits (congrArg List.tail hin)
  obtain ⟨v, run2, at2⟩ := at1.toCompleted d k hd (hk.trans count.symm)
  have run : SessionRun (1 + (6 + (d + 1) + 3 * (k + 1))) s.started (sessionFrames s) v := run1.append run2
  have cycles : K = 1 + (6 + (d + 1) + 3 * (k + 1)) + 1 := by omega
  have frames : v.txCount.toNat = v.idx.toNat + 5 := at2.live.txCount
  rw [cycles]
  refine ⟨⟨v, ?_, at2.live.inState, at2.live.err, at2.live.connUp, ?_, at2.inputs⟩, ?_, ?_⟩
  · rw [run_succ s _ _ hstep, run.run]
  · rw [frames, at2.idx]; omega
  · rw [framesSent_succ s _ _ hstep, run.framesSent]; rfl
  · exact runEnd_of_start hs (by rw [input]) (by rw [State.fetched, input]; rfl) hstep run
      (by simp [ended, at2.live.inState])

end Sys2Proof.Machine
end

section
/-! The host's bus operations (43_host_interface.md R109 to R113) and NOP (R114). -/

namespace Sys2Proof.Machine

variable (s : State)

/-! ### The register map (R23) -/

/-- R23, R44: no register stands at a misaligned offset, nor at 0x38 and above. -/
theorem regAt_eq_none (off : Byte) (h : off.toNat % 4 ≠ 0 ∨ 0x38 ≤ off.toNat) : regAt off = none := by
  revert off; decide

/-! ### Reads (R109, R111, R113) -/

theorem State.readAt_of_no_register (off : Byte) (h : regAt off = none) : s.readAt off = 0 := by
  rw [State.readAt, h]

/-- R28, R82: NCHUNK reads as the chunk count. -/
theorem State.readReg_nchunk : s.readReg .nchunk = BitVec.ofNat 32 ((s.payloadLen.toNat + 195) / 196) := by
  rw [← s.nchunk_toNat, BitVec.ofNat_toNat, State.readReg]

/-- R34: CKS_RESULT reads as its triple. -/
theorem State.readReg_cksResult :
    s.readReg .cksResult =
      BitVec.ofNat 32 (s.cksResult.sum16.toNat * 65536 + s.cksResult.tb.toNat * 256 + s.cksResult.ck.toNat) := by
  rw [← s.cksResult.word_toNat, BitVec.ofNat_toNat, BitVec.setWidth_eq, State.readReg]

/-- R36: IE weighs 1 and IRQ 2. -/
theorem State.readReg_intCtrl :
    s.readReg .intCtrl = BitVec.ofNat 32 ((if s.ie then 1 else 0) + if s.irq then 2 else 0) := by
  rw [State.readReg, State.intCtrlWord]
  cases s.ie <;> cases s.irq <;> rfl

/-- Settles O19: the register map gives the word at an offset, and each 16-bit register reads as its number. -/
theorem readDrivesTheRegisterWord : Obligations.ReadDrivesTheRegisterWord := by
  unfold Obligations.ReadDrivesTheRegisterWord
  intro s off
  have number {n : Nat} (x : BitVec n) : x.setWidth 32 = BitVec.ofNat 32 x.toNat := (BitVec.ofNat_toNat 32 x).symm
  have zero (h : off.toNat % 4 ≠ 0 ∨ 0x38 ≤ off.toNat ∨ off.toNat = 0x00) : s.readAt off = 0 := by
    obtain h | h | h := h
    · exact s.readAt_of_no_register off (regAt_eq_none off (.inl h))
    · exact s.readAt_of_no_register off (regAt_eq_none off (.inr h))
    · obtain rfl : off = 0x00#8 := BitVec.eq_of_toNat_eq h
      rfl
  exact ⟨rfl, rfl, zero, rfl, rfl, number s.payloadLen, s.readReg_nchunk, number s.ackTimeout, number s.settleDelay,
    number s.timer, number s.cksAddr, number s.cksLen, s.readReg_cksResult, number s.frameLen, s.readReg_intCtrl,
    number s.txCount⟩

/-- Settles O21: RDB drives the byte as a number. -/
theorem readByteDrivesThePayloadByte : Obligations.ReadByteDrivesThePayloadByte := by
  unfold Obligations.ReadByteDrivesThePayloadByte
  intro s a
  refine ⟨rfl, ?_⟩
  rw [BitVec.ofNat_toNat]
  rfl

/-- Settles O23: RDF drives the byte as a number. -/
theorem readFrameByteDrivesTheFrameByte : Obligations.ReadFrameByteDrivesTheFrameByte := by
  unfold Obligations.ReadFrameByteDrivesTheFrameByte
  intro s k
  refine ⟨rfl, ?_⟩
  rw [BitVec.ofNat_toNat]
  rfl

/-! ### Writes (R110, R112) -/

theorem exec_wr_of_no_register (off : Byte) (d : Word) (h : regAt off = none) :
    exec (.wr off d) s = .next (s.setCmdErr .badAddr) := by
  simp only [exec, execWr, h]

/-- R110: a register that only shows state takes no write. -/
theorem exec_wr_readOnly (off : Byte) (d : Word)
    (h : off ∈ [0x04#8, 0x08#8, 0x10#8, 0x1C#8, 0x28#8, 0x2C#8, 0x34#8]) :
    exec (.wr off d) s = .next (s.setCmdErr .badAddr) := by
  simp only [List.mem_cons, List.not_mem_nil, or_false] at h
  obtain rfl | rfl | rfl | rfl | rfl | rfl | rfl := h <;> rfl

/-- R110: PAYLOAD_LEN, ACK_TIMEOUT and SETTLE_DELAY are locked while busy. -/
theorem exec_wr_locked_of_busy (off : Byte) (d : Word) (busy : s.busy = true) (h : off ∈ [0x0C#8, 0x14#8, 0x18#8]) :
    exec (.wr off d) s = .next (s.setCmdErr .badState) := by
  simp only [List.mem_cons, List.not_mem_nil, or_false] at h
  obtain rfl | rfl | rfl := h <;> exact congrArg Host.Outcome.next (s.writeLocked_of_busy _ busy)

/-- Settles O20: the offset's register says whether the write is refused, runs a command, is locked, or goes through. -/
theorem writeReachesOnlyTheNamedField : Obligations.WriteReachesOnlyTheNamedField := by
  unfold Obligations.WriteReachesOnlyTheNamedField
  intro s off d
  have badAddr (h : off.toNat % 4 ≠ 0 ∨ 0x38 ≤ off.toNat ∨
      off ∈ [0x04#8, 0x08#8, 0x10#8, 0x1C#8, 0x28#8, 0x2C#8, 0x34#8]) :
      exec (.wr off d) s = .next { s with cmdErr := .badAddr } := by
    obtain h | h | h := h
    · exact exec_wr_of_no_register s off d (regAt_eq_none off (.inl h))
    · exact exec_wr_of_no_register s off d (regAt_eq_none off (.inr h))
    · exact exec_wr_readOnly s off d h
  have unlocked (t : State) (stable : s.busy = false) :
      Host.Outcome.next (φ := Fault) (ρ := Refusal) (s.writeLocked t) = .next { t with cmdErr := .ok } :=
    congrArg Host.Outcome.next (s.writeLocked_of_stable t stable)
  exact ⟨badAddr, commandWriteIsDecodedInOrder s d, fun h0 => decodeBus_wr off d (by simp [Instr.wellFormed, h0]),
    exec_wr_locked_of_busy s off d, fun stable => ⟨unlocked _ stable, unlocked _ stable, unlocked _ stable⟩,
    rfl, rfl, rfl⟩

@[simp] theorem State.writePB_readPB_same (a : Nat) (b : Byte) : (s.writePB a b).readPB a = b := by
  simp [State.readPB, Memory.read_write_same]

theorem State.writePB_readPB_other (a : Nat) (b : Byte) (x : Nat) (h : x ≠ a) :
    (s.writePB a b).readPB x = s.readPB x := by
  simp [State.readPB, Memory.read_write_other _ _ _ _ h]

/-- Settles O22: RANGE, then BAD_STATE, then the write, in the order WRB tests them. -/
theorem writeByteStoresOnePayloadByte : Obligations.WriteByteStoresOnePayloadByte := by
  unfold Obligations.WriteByteStoresOnePayloadByte
  intro s a b
  refine ⟨rfl, fun outside => ?_, fun inside busy => ?_, fun inside stable => ?_⟩
  · simp only [exec, execWrb, Config.payloadMax, if_pos outside, State.setCmdErr]
  · simp only [exec, execWrb, Config.payloadMax, if_neg (Nat.not_le.mpr inside), if_pos busy, State.setCmdErr]
  · have free : ¬s.busy = true := by simp [stable]
    refine ⟨(s.writePB a.toNat b).setCmdErr .ok, ?_, rfl, s.writePB_readPB_same a.toNat b,
      s.writePB_readPB_other a.toNat b⟩
    simp only [exec, execWrb, Config.payloadMax, if_neg (Nat.not_le.mpr inside), if_neg free]

/-! ### NOP (R114) -/

/-- Settles O14: NOP is the busy check of R60 alone. -/
theorem nopOnlySetsTheCommandStatus : Obligations.NopOnlySetsTheCommandStatus := by
  unfold Obligations.NopOnlySetsTheCommandStatus
  intro s
  refine ⟨decodeCommand_word .nop, ?_⟩
  cases busy : s.busy with
  | true => exact runCommand_busy s busy .nop
  | false => exact congrArg Host.Outcome.next (s.whenStable_of_stable _ busy)

end Sys2Proof.Machine
end

section
/-! Failures and exceptions (60_exceptions.md): the failure entry writes its record and nothing else (R116), no rule of
the sequencer touches CMD_ERR (R119) or gives the connection up except by failing or completing (R118), a step always
answers (R140), and the interrupt level (R123). -/

namespace Sys2Proof.Machine

open Sys2Proof.Safety

variable {s u v : State} {st : SeqState}

/-! ### The failure entry (R116) -/

/-- Settles O30: the two cases of a connection held or not at the start of the cycle, as one record. -/
theorem failureEntryRecordsAndReleases : Obligations.FailureEntryRecordsAndReleases := by
  unfold Obligations.FailureEntryRecordsAndReleases
  intro s start code
  rw [State.raiseFail_eq]
  cases start.connUp <;> simp

/-! ### How a rule of the sequencer ends -/

/-- What the rule of `st` may leave of a state `s`: it goes on, with CMD_ERR and `disc_req` as they were and a held
connection still held, or it ends the session by one of the two terminal entries (R116, R117). -/
inductive RuleOutcome (s : State) : SeqState → State → Prop
  | goesOn {st : SeqState} {v : State} (cmdErr : v.cmdErr = s.cmdErr) (discReq : v.out.discReq = s.out.discReq)
      (held : s.connUp = true → v.connUp = true) : RuleOutcome s st v
  | fails {st : SeqState} (code : FailCode) : RuleOutcome s st (s.raiseFail s code)
  | timesOut : RuleOutcome s .xferWait (s.countTick.raiseFail s .ackTimeout)
  | completes : RuleOutcome s .finWr2 s.complete

theorem sequencerRule_outcome (hv : sequencerRule st s = .next v) : RuleOutcome s st v := by
  have stays (st : SeqState) : RuleOutcome s st s := .goesOn rfl rfl id
  cases st with
  | idle | completed | failed => cases hv; exact stays _
  | connected => cases hv; exact .goesOn rfl rfl id
  | connecting =>
    rw [sequencerRule, ruleConnecting_eq] at hv; cases hv; split
    exacts [.goesOn rfl rfl fun _ => rfl, .fails _, stays _]
  | subscribing =>
    rw [sequencerRule, ruleSubscribing_eq] at hv; cases hv; split_ifs
    exacts [.fails _, .goesOn rfl rfl id, .goesOn rfl rfl id]
  | resetWr1 =>
    rw [sequencerRule, ruleResetWr1_eq] at hv; cases hv; split
    exacts [.goesOn rfl rfl id, .fails _, stays _]
  | resetSettle =>
    rw [sequencerRule, ruleResetSettle_eq] at hv; cases hv; split_ifs
    exacts [.goesOn rfl rfl id, .goesOn rfl rfl id, stays _]
  | resetWr2 =>
    rw [sequencerRule, ruleResetWr2_eq] at hv; cases hv; split
    exacts [.goesOn rfl rfl id, .fails _, stays _]
  | xferSend =>
    rw [sequencerRule, ruleXferSend_eq] at hv; cases hv; split_ifs
    exacts [.goesOn rfl rfl id, .fails _]
  | xferWr =>
    rw [sequencerRule, ruleXferWr_eq] at hv; cases hv; split
    exacts [.goesOn rfl rfl id, .fails _, stays _]
  | xferWait =>
    rw [sequencerRule, ruleXferWait_eq] at hv; cases hv; split_ifs
    exacts [.goesOn rfl rfl id, .goesOn rfl rfl id, .timesOut, .goesOn rfl rfl id, stays _]
  | finWr1 =>
    rw [sequencerRule, ruleFinWr1_eq] at hv; cases hv; split
    exacts [.goesOn rfl rfl id, .fails _, stays _]
  | finWr2 =>
    rw [sequencerRule, ruleFinWr2_eq] at hv; cases hv; split
    exacts [.completes, .fails _, stays _]

theorem RuleOutcome.cmdErr_eq (h : RuleOutcome s st v) : v.cmdErr = s.cmdErr := by
  cases h with
  | goesOn kept _ _ => exact kept
  | fails code => exact s.raiseFail_cmdErr s code
  | timesOut => exact s.countTick.raiseFail_cmdErr s _
  | completes => rfl

/-- R118: a rule emits `disc_req` exactly when it gives the connection up, and then by a terminal entry. -/
theorem RuleOutcome.discReq_iff (h : RuleOutcome s st v) (quiet : s.out.discReq = false)
    (last : st = .finWr2 → s.connUp = true) :
    (v.out.discReq = true ↔ s.connUp = true ∧ v.connUp = false) ∧ (v.out.discReq = true → ended v = true) := by
  cases h with
  | goesOn _ kept held =>
    have silent : v.out.discReq = false := kept.trans quiet
    simpa [silent] using held
  | fails code => simp [quiet, ended]
  | timesOut => simp [quiet, ended]
  | completes => simp [last rfl, ended]

/-! ### Every step answers (R116, R119, R140) -/

/-- Settles O34: a reset cycle answers, and of any other cycle the host's part and every rule do. -/
theorem everyStepAnswersNext : Obligations.EveryStepAnswersNext := by
  unfold Obligations.EveryStepAnswersNext
  intro s
  cases hr : s.input.rst with
  | true => exact ⟨s.resetCycle, if_pos hr⟩
  | false =>
    obtain ⟨u, hu⟩ := hostPart_next s
    obtain ⟨v, hv⟩ := sequencerRule_next u s.st
    exact ⟨v.endCycle, step_of_parts s u v hr hu hv⟩

/-! ### The command status (R119) -/

/-- A host that writes nothing leaves CMD_ERR: its reads only drive `hrdata` (R46). -/
theorem hostPart_cmdErr_of_no_write (hwr : ∀ off d, s.input.hop ≠ .wr off d) (hwrb : ∀ a b, s.input.hop ≠ .wrb a b)
    (hu : hostPart s = .next u) : u.cmdErr = s.cmdErr := by
  cases hop : s.input.hop with
  | none => rw [hostPart_of_no_operation hop] at hu; cases hu; rfl
  | rd off => rw [hostPart_of_decoded (i := .rd off) (by rw [hop]; rfl)] at hu; cases hu; rfl
  | rdb a => rw [hostPart_of_decoded (i := .rdb a) (by rw [hop]; rfl)] at hu; cases hu; rfl
  | rdf k => rw [hostPart_of_decoded (i := .rdf k) (by rw [hop]; rfl)] at hu; cases hu; rfl
  | wr off d => exact absurd hop (hwr off d)
  | wrb a b => exact absurd hop (hwrb a b)

/-- Settles O50: neither a reading host nor any rule of the sequencer writes CMD_ERR. -/
theorem readsNeverTouchTheCommandStatus : Obligations.ReadsNeverTouchTheCommandStatus := by
  unfold Obligations.ReadsNeverTouchTheCommandStatus
  intro s t hr hstep hwr hwrb
  obtain ⟨hrst, -⟩ | ⟨-, u, v, hu, hv, rfl⟩ := step_cases s t hstep
  · simp [hr] at hrst
  · calc v.endCycle.cmdErr = v.cmdErr := v.endCycle_cmdErr
      _ = u.cmdErr := (sequencerRule_outcome hv).cmdErr_eq
      _ = s.cmdErr := hostPart_cmdErr_of_no_write hwr hwrb hu

/-! ### The release of the connection (R118) -/

/-- In a stable state with the connection down the host's part emits no `disc_req`: START may fail, but holds none. -/
theorem hostPart_discReq_of_stable (hb : s.busy = false) (down : s.connUp = false) (hu : hostPart s = .next u) :
    u.out.discReq = false := by
  obtain ⟨c, len, ta, sd, a, l, e, m, r, rfl, -⟩ | ⟨arg, -, rfl⟩ | ⟨q, rfl⟩ | ⟨-, -, rfl⟩ | ⟨-, rfl⟩ :=
    hostPart_stable s u hb hu
  · rfl
  · rfl
  · rfl
  · obtain ⟨-, h⟩ | ⟨-, -, h⟩ | ⟨-, -, h⟩ := s.beginCycle.beginSession_cases <;> simp [h, down]
  · rfl

/-- Settles O52: while busy the rule of the STATE decides, with the connection held in FIN_WR2; in a stable state the
connection is down and nothing releases it. -/
theorem disconnectExactlyWhenReleased : Obligations.DisconnectExactlyWhenReleased := by
  unfold Obligations.DisconnectExactlyWhenReleased
  intro s t h hr hstep
  cases hb : s.busy with
  | true =>
    obtain ⟨c, a, l, e, r, v, hv, rfl⟩ := step_busy s t hb hr hstep
    have held (hst : s.st = .finWr2) : s.connUp = true := by rw [h.connUp, hst]; rfl
    exact (sequencerRule_outcome hv).discReq_iff rfl held
  | false =>
    obtain ⟨u, hu, rfl⟩ := step_stable s t hb hr hstep
    have down : s.connUp = false := connUp_of_stable h hb
    simp [hostPart_discReq_of_stable hb down hu, down]

/-! ### The interrupt level (R123) -/

/-- Settles O29: of the two fields that INT_CTRL joins, only the one that stands at a place shows there. -/
theorem interruptLevelIsEnabledTerminalState : Obligations.InterruptLevelIsEnabledTerminalState := by
  unfold Obligations.InterruptLevelIsEnabledTerminalState
  intro s
  refine ⟨by simp [State.irq], ?_, ?_, ?_⟩
  · simp [State.intCtrlWord, getElem_fieldAt]
  · simp [State.intCtrlWord, getElem_fieldAt]
  · simp (disch := omega) [State.intCtrlWord, BitVec.extractLsb'_or, extractLsb'_fieldAt_apart]

end Sys2Proof.Machine
end

section
/-! Reset (70_reset_and_hazards.md): a cycle with `rst` = 1 answers the reset state over the parameters it finds (R131), and
that state holds the values of R132 and meets the invariants. -/

namespace Sys2Proof.Machine

open Sys2Proof.Safety

/-! ### The reset cycle (R131) -/

theorem step_of_reset {s : State} (hr : s.input.rst = true) : step s = .next s.resetCycle := if_pos hr

/-- Settles O31: the step is the reset cycle, which takes over the parameters and no register of the state before it. -/
theorem resetCycleResetsEverything : Obligations.ResetCycleResetsEverything := by
  unfold Obligations.ResetCycleResetsEverything
  intro s hr
  refine ⟨s.resetCycle, step_of_reset hr, ?_⟩
  simp [State.resetCycle, State.reset, State.irq]

/-! ### The values after reset (R132) -/

/-- No byte of PB or FB has been written since reset, so each is the free one of its epoch. -/
theorem State.reset_readPB (a : Nat) : State.reset.readPB a = Config.unwrittenPB 0 a := rfl

theorem State.reset_readFB (k : Nat) : State.reset.readFB k = Config.unwrittenFB 0 k := rfl

/-- The words a register shows of several fields (STATUS, ERROR, CKS_RESULT, INT_CTRL), and the chunk count, are 0. -/
theorem State.reset_derived :
    State.reset.statusWord = 0 ∧ State.reset.errorWord = 0 ∧ State.reset.nchunk = 0 ∧
      State.reset.cksResult.word = 0 ∧ State.reset.intCtrlWord = 0 := by
  decide

/-- Settles O32: the derived words are computed, PB and FB list nothing, and the other registers stand in the reset state
as they are. -/
theorem resetStateValues : Obligations.ResetStateValues := by
  unfold Obligations.ResetStateValues
  obtain ⟨status, error, nchunk, cksResult, intCtrl⟩ := State.reset_derived
  exact
    ⟨rfl, rfl, rfl, rfl, rfl, rfl, status, error, rfl, nchunk, rfl, rfl, rfl, rfl, cksResult, rfl, intCtrl, rfl, rfl,
      rfl, rfl, rfl, rfl, rfl, State.reset_readPB, State.reset_readFB⟩

/-! ### The invariants after reset -/

/-- R6: the parameters of the block are a checked set, but for the length byte, which no limit concerns. -/
theorem params_wf : Config.params.wf = true := Config.openParams.ok

/-- The reset state differs from the reset cycle's only where the session invariant does not look. -/
theorem reset_sessionInv : SessionInv State.reset :=
  sessionInv_congr _ _ (resetCycle_sessionInv State.reset) rfl rfl rfl rfl rfl rfl rfl rfl fun _ => ⟨rfl, rfl, rfl⟩

/-- Settles O58: both memories list nothing, no frame is stored, and the parameters are a checked set. -/
theorem resetMeetsTheInvariants : Obligations.ResetMeetsTheInvariants := by
  unfold Obligations.ResetMeetsTheInvariants
  have memory : MemoryInv State.reset := ⟨Memory.wf_nil _, Memory.wf_nil _⟩
  have noFrame : FrameInv State.reset := .inl rfl
  exact ⟨memory, reset_sessionInv, noFrame, params_wf⟩

end Sys2Proof.Machine
end
